-- ==== Sys2Proof/Word.lean ====
section
/-!
DEFINITION. The words of the part (bytes, 16-bit item values, 32-bit cycle numbers, epochs, digests and tick
counts), the four channels, and a table with one place per channel.
-/

namespace Sys2Proof

/-- One byte of a frame. -/
abbrev Byte := BitVec 8

/-- An item value: a 16-bit pattern (R3). -/
abbrev Word16 := BitVec 16

/-- A 32-bit number: an epoch, a digest, an identity, a tag. -/
abbrev Word32 := BitVec 32

/-- A cycle number, 32-bit, wrapping (00_scope.md, Cycle numbers). -/
abbrev Cycle := BitVec 32

/-- A value of the tick count, 32-bit, wrapping (R20). -/
abbrev Tick := BitVec 32

/-- The four channels; a channel and its port carry the same letter (00_scope.md, Channels). -/
inductive Channel where
  | a | b | c | d
deriving DecidableEq, Repr

/-- One value of a kind for each of the channels A to D. -/
structure PerChannel (α : Type) where
  a : α
  b : α
  c : α
  d : α
deriving DecidableEq, Repr

namespace Channel

/-- The four channels in letter order. -/
def all : List Channel := [.a, .b, .c, .d]

end Channel

namespace PerChannel

variable {α β : Type}

/-- The value of channel `ch`. -/
def get (t : PerChannel α) : Channel → α
  | .a => t.a
  | .b => t.b
  | .c => t.c
  | .d => t.d

/-- The table with channel `ch`'s value replaced. -/
def set (t : PerChannel α) (ch : Channel) (x : α) : PerChannel α :=
  match ch with
  | .a => { t with a := x }
  | .b => { t with b := x }
  | .c => { t with c := x }
  | .d => { t with d := x }

/-- The table whose value for each channel is given by a rule. -/
def build (f : Channel → α) : PerChannel α := ⟨f .a, f .b, f .c, f .d⟩

/-- The same value for every channel. -/
def fill (x : α) : PerChannel α := ⟨x, x, x, x⟩

end PerChannel

/-- A set of channels: each letter is in it or not (00_scope.md, Channels). -/
abbrev ChannelSet := PerChannel Bool

namespace ChannelSet

/-- The empty set. -/
def empty : ChannelSet := PerChannel.fill false

/-- The set holding `ch` alone. -/
def only (ch : Channel) : ChannelSet := empty.set ch true

/-- How many channels the set holds. -/
def card (s : ChannelSet) : Nat := s.a.toNat + s.b.toNat + s.c.toNat + s.d.toNat

/-- Every channel of `s` is in `t`. -/
def within (s t : ChannelSet) : Bool :=
  Channel.all.all fun ch => !(s.get ch) || t.get ch

end ChannelSet

end Sys2Proof
end

