-- ==== Sys2Proof/Syntax.lean ====
section
/-!
DEFINITION. The commands of the part: one constructor for each row of spec/opcode_table.json, with the operands
its rule of spec/ speaks of. The table gives its rows no fields, so the operands are the model's (log entry 6).
-/

namespace Sys2Proof

/-- One byte as a receive side sees it: its data bits, and whether its stop bit was received low (R149). -/
structure RxByte where
  data : Byte
  framingError : Bool
deriving DecidableEq, Repr

/-- The blocks that a mark is offered to, the four channel ports each on its own (R24). -/
inductive MarkTaker where
  | roundWindow
  | port (ch : Channel)
  | membership
  | changeTable
  | store
deriving DecidableEq, Repr

/-- The two halves of the mark (R22, R24). The order in which the blocks take a mark is not fixed, and other
events may come between, so the command says which blocks take it now and in which order. -/
inductive MarkEvent where
  /-- The Cycle Timer opens cycle N and offers the mark; the blocks named then take it, in the order named. -/
  | opens (takers : List MarkTaker)
  /-- The blocks named take a mark that was offered earlier and that they have not taken yet. -/
  | takes (takers : List MarkTaker)
deriving DecidableEq, Repr

/-- The commands. `ch` is the channel whose port the event happens at; `payload` is the payload of the good frame
received, escapes removed (R171). -/
inductive Instr where
  /-- POWER_ON (R175): the first valid tick, with the level of RST_N sampled at it. -/
  | powerOn (resetHigh : Bool)
  /-- WARM_RESET (R31, R175): RST_N is sampled low. -/
  | warmReset
  /-- RESET_RELEASE (R31, R175): RST_N is sampled high. -/
  | resetRelease
  /-- MARK (R22, R24). -/
  | mark (event : MarkEvent)
  /-- DEADLINE_EXPIRY (R72): the tick count reaches the deadline of the round of this cycle. -/
  | deadlineExpiry (cycle : Cycle)
  /-- FOUNDING_EXPIRY (R143): the tick count reaches the founding expiry of this ticket. -/
  | foundingExpiry (ticket : Byte)
  /-- LINE_ACTIVITY (R148): a byte is received; on a DOWN port it is the first one. -/
  | lineActivity (ch : Channel) (byte : RxByte)
  /-- LINE_QUIET (R147): 10 µs pass with no byte received. -/
  | lineQuiet (ch : Channel)
  /-- HUNT_FRAME (R151): a frame is judged while the line is HUNT, with this judgement. -/
  | huntFrame (ch : Channel) (good : Bool)
  /-- BAD_FRAME (R152): a frame is judged bad. -/
  | badFrame (ch : Channel)
  /-- FRAME_ABORT (R149): a frame has not ended 300 byte times after its start. -/
  | frameAbort (ch : Channel)
  /-- ANNOUNCE (R38): a good ANNOUNCE. -/
  | announce (ch : Channel) (payload : List Byte)
  /-- LEAVE (R49): a good LEAVE. -/
  | leave (ch : Channel) (payload : List Byte)
  /-- PROPOSAL (R63): a good PROPOSAL. -/
  | proposal (ch : Channel) (payload : List Byte)
  /-- CHANGE (R129): a good CHANGE. -/
  | change (ch : Channel) (payload : List Byte)
  /-- CONCUR (R133): a good CONCUR. -/
  | concur (ch : Channel) (payload : List Byte)
  /-- RETRACT (R140): a good RETRACT. -/
  | retract (ch : Channel) (payload : List Byte)
  /-- READ (R161): a good READ. -/
  | read (ch : Channel) (payload : List Byte)
  /-- UNKNOWN_KIND (R153): a good frame of this kind code, which the part does not take. -/
  | unknownKind (ch : Channel) (kind : Byte)
  /-- TRANSMISSION_END (R155): the port finishes sending a frame. -/
  | transmissionEnd (ch : Channel)
  /-- TRANSMIT_CHOICE (R155): the port's free transmitter chooses. -/
  | transmitChoice (ch : Channel)
  /-- OUTPUT_TRANSMISSION_END (R123): the output link finishes a DECISION. -/
  | outputTransmissionEnd
  /-- CLOSE (R74): the oldest present round, being SEALED, is closed. -/
  | close
deriving DecidableEq, Repr

end Sys2Proof
end

