-- ==== Sys2Proof/Decode.lean ====
section
/-!
DEFINITION. The commands that words spell by the bits of spec/opcode_table.json. The table gives none of its rows a
bit, so no word spells a command.
-/

namespace Sys2Proof

/-- The command spelled by a word of the table: none, since no row of the table has bits. -/
def decodeTableWord (_nbits _w : Nat) : Option Instr := none

end Sys2Proof
end

