-- ==== Sys2Proof/Machine/Bytes.lean ====
section
/-!
DEFINITION. Bytes and numbers: the serial comparison of cycle numbers and tick counts, the two CRCs, the escapes
and the judgement of a received frame, numbers sent most significant byte first, and the bits of a byte on the line.
-/

namespace Sys2Proof.Machine

/-- `older c1 c2`: (c2 − c1) mod 2^32 lies in 1..2^31 − 1 (00_scope.md, Cycle numbers). DEDUCED: log entry 9. -/
def older (c1 c2 : BitVec 32) : Bool :=
  let d := (c2 - c1).toNat
  1 ≤ d && d ≤ 2147483647

/-- `sameOrNewer c1 c2`: c1 is c2 or newer than it. -/
def sameOrNewer (c1 c2 : BitVec 32) : Bool := c1 == c2 || older c2 c1

/-- One bit of a CRC (R172). -/
def crcBit {w : Nat} (generator register : BitVec w) (bit : Bool) : BitVec w :=
  let top := Bool.xor register.msb bit
  let shifted := register <<< 1
  if top then shifted ^^^ generator else shifted

/-- One byte of a CRC, its most significant bit first (R172). -/
def crcByte {w : Nat} (generator register : BitVec w) (b : Byte) : BitVec w :=
  [7, 6, 5, 4, 3, 2, 1, 0].foldl (fun r i => crcBit generator r (b.getLsbD i)) register

/-- The frame CRC-16 (R172). -/
def crc16 (bytes : List Byte) : BitVec 16 := bytes.foldl (crcByte 0x1021#16) 0xFFFF#16

/-- The configuration CRC-32 (R172). -/
def crc32 (bytes : List Byte) : Word32 := bytes.foldl (crcByte 0x04C11DB7#32) 0xFFFFFFFF#32

/-- A number in one byte. -/
def be8 (n : Nat) : List Byte := [BitVec.ofNat 8 n]

/-- A number in two bytes, most significant first (R173). -/
def be16 (n : Nat) : List Byte := [BitVec.ofNat 8 (n / 256), BitVec.ofNat 8 n]

/-- A number in three bytes, most significant first (R173). -/
def be24 (n : Nat) : List Byte := [BitVec.ofNat 8 (n / 65536), BitVec.ofNat 8 (n / 256), BitVec.ofNat 8 n]

/-- A 32-bit word in four bytes, most significant first (R173). -/
def be32 (w : Word32) : List Byte :=
  [w.extractLsb' 24 8, w.extractLsb' 16 8, w.extractLsb' 8 8, w.extractLsb' 0 8]

/-- The number that bytes give, most significant first (R173). -/
def readNat (bytes : List Byte) : Nat := bytes.foldl (fun n b => n * 256 + b.toNat) 0

/-- The number in `width` bytes from position `i` on. -/
def field (bytes : List Byte) (i width : Nat) : Nat := readNat ((bytes.drop i).take width)

/-- The 32-bit word in the four bytes from position `i` on. -/
def field32 (bytes : List Byte) (i : Nat) : Word32 := BitVec.ofNat 32 (field bytes i 4)

/-- The delimiter byte (R171). -/
def delimiter : Byte := 0xC5#8

/-- The escape byte (R171). -/
def escapeByte : Byte := 0xCA#8

/-- A byte of a body as it is sent, escaped where it equals the delimiter or the escape (R171). -/
def escaped (b : Byte) : List Byte :=
  if b = delimiter ∨ b = escapeByte then [escapeByte, b ^^^ 0x20#8] else [b]

/-- Kind, length, payload and CRC-16 of a frame, before escaping (R171). -/
def frameBody (kind : Byte) (payload : List Byte) : List Byte :=
  let checked := kind :: BitVec.ofNat 8 payload.length :: payload
  checked ++ be16 (crc16 checked).toNat

/-- The bytes between the delimiters, as they are sent (R171). -/
def bodyOnLine (kind : Byte) (payload : List Byte) : List Byte := (frameBody kind payload).flatMap escaped

/-- A whole frame as it is sent (R171). -/
def frameOnLine (kind : Byte) (payload : List Byte) : List Byte :=
  delimiter :: bodyOnLine kind payload ++ [delimiter]

/-- A body with its escapes removed; absent when an escape is not followed by 0xE5 or 0xEA (R150, tests 2 and 3). -/
def unescaped : List Byte → Option (List Byte)
  | [] => some []
  | [x] => if x = escapeByte then none else some [x]
  | x :: y :: rest =>
    if x = escapeByte then
      if y = 0xE5#8 ∨ y = 0xEA#8 then (unescaped rest).map ((y ^^^ 0x20#8) :: ·) else none
    else (unescaped (y :: rest)).map (x :: ·)

/-- The judgement of a received frame (R150). -/
inductive Judgement where
  | good (kind : Byte) (payload : List Byte)
  | bad
deriving DecidableEq, Repr

/-- How many byte times a frame may take from its opening to its closing delimiter (R149). -/
def frameLimit : Nat := 300

/-- The frame ends within the limit: the bytes of its body and its closing delimiter fit 300 byte times, and no more
than 150 ticks (150 µs) have gone by since its opening delimiter (R149, R150 test 1). -/
def endsInTime (body : List RxByte) (start now : Tick) : Bool :=
  body.length + 1 ≤ frameLimit && (now - start).toNat ≤ 150

/-- The judgement of the unescaped bytes of a body: length and CRC (R150, tests 3 and 4). -/
def judgeBytes : List Byte → Judgement
  | kind :: len :: rest =>
    let payload := rest.take len.toNat
    if rest.length = len.toNat + 2 ∧ rest.drop len.toNat = be16 (crc16 (kind :: len :: payload)).toNat then
      .good kind payload
    else .bad
  | _ => .bad

/-- The judgement of a body that ended at a delimiter (R150). -/
def judge (body : List RxByte) (start now : Tick) : Judgement :=
  if endsInTime body start now && body.all (fun b => !b.framingError) then
    match unescaped (body.map (·.data)) with
    | some bytes => judgeBytes bytes
    | none => .bad
  else .bad

/-! ## The line (R171) -/

/-- The level of the line between bytes: high. -/
def restLevel : Bool := true

/-- The ten bits of a byte on the line, in the order they are sent: the start bit at the low level, the data bits with the
least significant first, and the stop bit at the high level (R171). -/
def bitsOnLine (b : Byte) : List Bool :=
  [false, b.getLsbD 0, b.getLsbD 1, b.getLsbD 2, b.getLsbD 3, b.getLsbD 4, b.getLsbD 5, b.getLsbD 6, b.getLsbD 7, true]

/-- The bytes that a receive side takes from the levels of the line, one level a bit time: the line rests high, a low level
is a start bit, and a stop bit at the low level is a framing error (R149, R171). A byte whose ten bits are not there yet
is not received. DEDUCED: log entry 11. -/
def receivedBytes : List Bool → List RxByte
  | true :: rest => receivedBytes rest
  | false :: b0 :: b1 :: b2 :: b3 :: b4 :: b5 :: b6 :: b7 :: stop :: rest =>
    ⟨BitVec.ofBoolListLE [b0, b1, b2, b3, b4, b5, b6, b7], !stop⟩ :: receivedBytes rest
  | _ => []

/-- The kind codes a channel port takes (R171). -/
def takenKinds : List Byte := [0x11#8, 0x12#8, 0x13#8, 0x14#8, 0x15#8, 0x16#8, 0x17#8]

/-- A good frame of this kind and payload can be received: the length fits its byte, and the escaped frame ends
within the limit (R149, R171). -/
def deliverable (kind : Byte) (payload : List Byte) : Bool :=
  payload.length ≤ 255 && (bodyOnLine kind payload).length + 1 ≤ frameLimit

end Sys2Proof.Machine
end

