-- ==== Sys2Proof/Config.lean ====
section
/-!
DEFINITION. What the manual leaves open and the model leaves free. Each constant has no body, so that no proof can
see its value: a statement proved of the model holds whatever these are. Each is read at `State.freeCount`, a
counter that advances at each reading, so that each reading is free of the others.
-/

namespace Sys2Proof.Config

/-- The value the tick count starts from at power-on, which R32 leaves unspecified. Log entry 2. -/
opaque powerOnTick : Nat → Tick

/-- The order in which the notices of one event join a port's queue where no rule gives one (R157): the place at
which the next notice is put among those already placed. Log entry 3. -/
opaque noticeOrder : Nat → Nat

/-- Which of several ready events of the part's own is taken first when none is commanded: the manual gives no
order among events that fall together (R23, R24, R74). Log entry 5. -/
opaque nextEvent : Nat → Nat

end Sys2Proof.Config
end

