-- ==== Sys2Proof/Machine/State.lean ====
section
/-!
DEFINITION. The state of the part, block by block, as plain data, and its value after power-on. The manual's block
and field names are kept; INVENTORY.md lists every field with its rule and its reset value.
-/

namespace Sys2Proof.Machine

/-! ## Names the manual sets in capitals -/

/-- The state of a channel in the Membership Table (R33). -/
inductive ChannelState where
  | detached | linked | candidate | probation | voting | observer | excluded
deriving DecidableEq, Repr

/-- The group state (R51). -/
inductive GroupState where
  | empty | stalled | active
deriving DecidableEq, Repr

/-- The role declared in an ANNOUNCE (R40). -/
inductive Role where
  | voter | observer
deriving DecidableEq, Repr

/-- The output state (R113). -/
inductive OutputState where
  | inactive | live | holdover | safe
deriving DecidableEq, Repr

/-- The level of a pin. -/
inductive Level where
  | low | high
deriving DecidableEq, Repr

/-- The line state of a channel port (R146). -/
inductive LineState where
  | down | hunt | up
deriving DecidableEq, Repr

/-- How an item's values are compared (R3). -/
inductive MatchMode where
  | exact | band
deriving DecidableEq, Repr

/-- How an item's 16-bit values are read (R3). -/
inductive Signedness where
  | unsigned | signed
deriving DecidableEq, Repr

/-- What an item takes when it is not accepted (R3). -/
inductive Fallback where
  | hold | safe
deriving DecidableEq, Repr

/-- Why the part's state was last restarted (R16). -/
inductive RestartCause where
  | powerOn | pin | dissolve
deriving DecidableEq, Repr

/-- The outcome of an item's vote (R83). -/
inductive ItemOutcome where
  | accepted | held | safed
deriving DecidableEq, Repr

/-- The outcome of a round (R90); `mixed` is the manual's PARTIAL. -/
inductive RoundOutcome where
  | complete | mixed | void
deriving DecidableEq, Repr

/-- What sealed a round (R59). -/
inductive SealCause where
  | allIn | deadline
deriving DecidableEq, Repr

/-- What closed a round (R76). -/
inductive CloseCause where
  | allIn | deadline | forced
deriving DecidableEq, Repr

/-- The own status a VERDICT carries (R96). -/
inductive OwnStatus where
  | counted | missing | shadowAgreed | shadowDissent | notVoter
deriving DecidableEq, Repr

/-- The kinds of change (R128). -/
inductive ChangeKind where
  | found | group | schema | pardon | dissolve
deriving DecidableEq, Repr

/-- Why a channel was excluded (R37, R46). -/
inductive ExclusionReason where
  | score | linkLost
deriving DecidableEq, Repr

/-- Why a change entry was voided (R108). -/
inductive VoidReason where
  | expired | superseded | retracted | proposerLeft | dissolved
deriving DecidableEq, Repr

/-- Why a request was refused, in the order of the refusal table of Channel Links. -/
inductive RefusalReason where
  | noGroup | wrongState | wrongPort | notMember | notVoter | alreadyJoined | digestMismatch | staleEpoch
  | holdoff | busy | badField | unknownTicket | digestDiffers | alreadyConcurred | epochLimit | unknownKind
deriving DecidableEq, Repr

/-- The views that a READ asks for (10.1). -/
inductive View where
  | group | schema | channel | history | pending | items
deriving DecidableEq, Repr

/-- The eighteen per-channel counters, in the order of R107. -/
inductive CounterName where
  | framesGood | framesBad | unknownKind | proposalsTaken | late | early | epochWrong | duplicate | queueFull
  | notVoter | missingRounds | dissentRounds | abstainRounds | agreeRounds | admissions | exclusions
  | marksSkipped | verdictsDropped
deriving DecidableEq, Repr

/-! ## Configuration Store -/

/-- A group record (R1). -/
structure GroupRecord where
  members : ChannelSet
  /-- Qi, the item quorum. -/
  itemQuorum : Nat
  /-- Qc, the change quorum. -/
  changeQuorum : Nat
  /-- P, in ticks. -/
  period : Nat
  /-- D, in ticks. -/
  deadlineOffset : Nat
  changeWindow : Nat
  warnLevel : Nat
  excludeLevel : Nat
  probationRounds : Nat
  holdoffCycles : Nat
  safeAfter : Nat
  recoverAfter : Nat
deriving DecidableEq, Repr

/-- One entry of an item schema (R3). -/
structure SchemaItem where
  matchMode : MatchMode
  signedness : Signedness
  tolerance : Nat
  fallback : Fallback
  safeValue : Word16
deriving DecidableEq, Repr

/-- A configuration with its identity and the first cycle it governs (1.1). -/
structure Configuration where
  record : GroupRecord
  /-- The item entries; the item count is their number (R3). -/
  schema : List SchemaItem
  epoch : Word32
  digest : Word32
  firstCycle : Cycle
deriving DecidableEq, Repr

/-- The kind of a change that waits for its activation, with the pardoned channel (1.1). -/
inductive AwaitedKind where
  | group
  | schema
  | pardon (ch : Channel)
deriving DecidableEq, Repr

/-- The awaiting slot's contents (1.1): the configuration that its activation installs, whose first cycle is the
activation cycle (R10). -/
structure Awaiting where
  config : Configuration
  kind : AwaitedKind
deriving DecidableEq, Repr

/-- An entry of the item state table that holds a value (R13). -/
structure ItemState where
  value : Word16
  acceptanceCycle : Cycle
  saturated : Bool
deriving DecidableEq, Repr

/-- The Configuration Store (1.1). -/
structure Store where
  installed : Option Configuration
  awaiting : Option Awaiting
  /-- Oldest first. -/
  retained : List Configuration
  /-- The item state table: one place for each item number 0..31. -/
  items : List (Option ItemState)
  schemaBoundary : Option Cycle
  restartCause : RestartCause
  retainedNextCycle : Option Cycle
deriving DecidableEq, Repr

/-! ## Cycle Timer -/

/-- What the Cycle Timer holds while it is RUNNING (R21). -/
structure RunningTimer where
  /-- N, the next cycle number to be opened. -/
  nextCycle : Cycle
  nextMark : Tick
  period : Nat
  deadlineOffset : Nat
deriving DecidableEq, Repr

/-- A founding expiry (R28). -/
structure FoundingExpiry where
  ticket : Byte
  tick : Tick
deriving DecidableEq, Repr

/-- A mark that the Cycle Timer has taken and that this block has not taken yet (R24). DEDUCED: log entry 7. -/
structure MarkOffer where
  taker : MarkTaker
  cycle : Cycle
  deadline : Tick
  /-- The mark's own time (R22, step 6). -/
  time : Tick
deriving DecidableEq, Repr

/-- The Cycle Timer (R20, R21): STOPPED when `running` is absent. -/
structure Timer where
  tickCount : Tick
  running : Option RunningTimer
  foundingExpiries : List FoundingExpiry
  /-- The marks on their way to the reacting blocks, oldest first (R24). -/
  offers : List MarkOffer
deriving DecidableEq, Repr

/-! ## Membership Table -/

/-- An announcement record (R40). -/
structure Announcement where
  role : Role
  letter : Channel
  epoch : Word32
  digest : Word32
  identity : Word32
  softwareTag : Word32
deriving DecidableEq, Repr

/-- A channel's entry in the Membership Table (R33). -/
structure Member where
  state : ChannelState
  announcement : Option Announcement
  holdoff : Nat
  probationRun : Nat
  admissionCycle : Option Cycle
deriving DecidableEq, Repr

/-! ## Round Window -/

/-- An entry of a proposal queue (R58); an item is a value or ABSTAIN (absent). -/
structure QueueEntry where
  cycle : Cycle
  epoch : Word32
  itemCount : Nat
  items : List (Option Word16)
deriving DecidableEq, Repr

/-- What a round holds from its sealing on (R59). -/
structure Seal where
  cause : SealCause
  voters : ChannelSet
deriving DecidableEq, Repr

/-- A round record (R59): OPEN while it has no seal, SEALED from then on. -/
structure Round where
  cycle : Cycle
  deadline : Tick
  arrival : ChannelSet
  sealedBy : Option Seal
deriving DecidableEq, Repr

/-- The Round Window (4): queues and rounds, each oldest first. -/
structure Window where
  queues : PerChannel (List QueueEntry)
  rounds : List Round
  nextRound : Option Cycle
deriving DecidableEq, Repr

/-! ## Standing Monitor -/

/-- The eighteen counters of a channel (R107). -/
structure Counters where
  framesGood : Nat
  framesBad : Nat
  unknownKind : Nat
  proposalsTaken : Nat
  late : Nat
  early : Nat
  epochWrong : Nat
  duplicate : Nat
  queueFull : Nat
  notVoter : Nat
  missingRounds : Nat
  dissentRounds : Nat
  abstainRounds : Nat
  agreeRounds : Nat
  admissions : Nat
  exclusions : Nat
  marksSkipped : Nat
  verdictsDropped : Nat
deriving DecidableEq, Repr

/-- What the Standing Monitor holds for a channel (R100). -/
structure Standing where
  score : Nat
  counters : Counters
deriving DecidableEq, Repr

/-- The five part-wide counters (R108). -/
structure PartCounters where
  decisions : Nat
  forcedCloses : Nat
  outputOverruns : Nat
  changesCommitted : Nat
  changesVoided : Nat
deriving DecidableEq, Repr

/-! ## Change Table -/

/-- The content of a change (R128). -/
inductive Payload where
  | found (record : GroupRecord) (schema : List SchemaItem)
  | group (record : GroupRecord)
  | schema (schema : List SchemaItem)
  | pardon (ch : Channel)
  | dissolve
deriving DecidableEq, Repr

/-- PENDING, or COMMITTED with the activation cycle (R127). -/
inductive EntryState where
  | pending
  | committed (activation : Cycle)
deriving DecidableEq, Repr

/-- A change entry (R127); its kind is that of its payload. -/
structure ChangeEntry where
  ticket : Byte
  proposer : Channel
  baseEpoch : Word32
  payload : Payload
  payloadDigest : Word32
  concurrence : ChannelSet
  expiry : Option Cycle
  state : EntryState
deriving DecidableEq, Repr

/-- The Change Table (R127): entries in the order their tickets were issued. -/
structure ChangeTable where
  entries : List ChangeEntry
  ticketCounter : Byte
deriving DecidableEq, Repr

/-! ## Frames the part sends -/

/-- What an item took in a round (R83). -/
structure ItemResult where
  value : Word16
  outcome : ItemOutcome
  age : Nat
deriving DecidableEq, Repr

/-- A MARK frame (R25). -/
structure MarkFrame where
  cycle : Cycle
  epoch : Word32
  groupState : GroupState
  outputState : OutputState
deriving DecidableEq, Repr

/-- A NOTICE frame (Notices and refusals, gathered; R173). -/
inductive Notice where
  | admitted (state : ChannelState)
  | refused (request : Byte) (reason : RefusalReason)
  | promoted
  | excluded (ch : Channel) (reason : ExclusionReason)
  | advisory (score : Nat)
  | groupState (state : GroupState)
  | outputState (state : OutputState)
  | changePending (ticket : Byte) (kind : ChangeKind) (proposer : Channel) (digest : Word32) (expiry : Option Cycle)
  | concurred (ticket : Byte) (count : Nat)
  | changeCommitted (ticket : Byte) (epoch digest : Word32) (activation : Option Cycle)
  | changeVoided (ticket : Byte) (reason : VoidReason)
  | activated (epoch : Word32) (cycle : Cycle)
  | lost (count : Nat)
deriving DecidableEq, Repr

/-- A VERDICT frame (R124). -/
structure Verdict where
  cycle : Cycle
  epoch : Word32
  outcome : RoundOutcome
  cause : CloseCause
  outputState : OutputState
  items : List ItemResult
  ownStatus : OwnStatus
  dissent : List Nat
  score : Nat
deriving DecidableEq, Repr

/-- A DECISION frame (R121). -/
structure Decision where
  cycle : Cycle
  epoch : Word32
  outputState : OutputState
  items : List ItemResult
deriving DecidableEq, Repr

/-- A decision record of the History Buffer (R168); its item count is the number of its items. -/
structure DecisionRecord where
  cycle : Cycle
  epoch : Word32
  cause : CloseCause
  outcome : RoundOutcome
  outputState : OutputState
  items : List ItemResult
deriving DecidableEq, Repr

/-- The GROUP view (R163). -/
structure GroupView where
  installedEpoch : Word32
  installedDigest : Word32
  currentEpoch : Word32
  currentDigest : Word32
  awaiting : Option (ChangeKind × Cycle)
  record : Option GroupRecord
  restartCause : RestartCause
  groupState : GroupState
  states : PerChannel ChannelState
  outputState : OutputState
  voidRun : Nat
  goodRun : Nat
  /-- N, the period in force and the deadline offset in force. -/
  timer : Option (Cycle × Nat × Nat)
  part : PartCounters
deriving DecidableEq, Repr

/-- The SCHEMA view (R164). -/
structure SchemaView where
  itemCount : Nat
  epoch : Word32
  entries : List (Nat × SchemaItem)
deriving DecidableEq, Repr

/-- The ITEMS view (R165). -/
structure ItemsView where
  itemCount : Nat
  epoch : Word32
  boundary : Option Cycle
  entries : List (Nat × Option ItemState)
deriving DecidableEq, Repr

/-- The CHANNEL view (R166). -/
structure ChannelView where
  member : Member
  standing : Standing
deriving DecidableEq, Repr

/-- The HISTORY view (R170). -/
structure HistoryView where
  present : Nat
  decisions : Nat
  record : Option DecisionRecord
deriving DecidableEq, Repr

/-- The time shown with an entry of the PENDING view (R167). -/
inductive PendingTime where
  | expires (cycle : Cycle)
  | ticksLeft (ticks : Word32)
  | activates (cycle : Cycle)
deriving DecidableEq, Repr

/-- An entry of the PENDING view (R167). -/
structure PendingEntry where
  ticket : Byte
  kind : ChangeKind
  proposer : Channel
  baseEpoch : Word32
  payloadDigest : Word32
  concurrence : ChannelSet
  committed : Bool
  time : PendingTime
deriving DecidableEq, Repr

/-- The PENDING view (R167). -/
structure PendingView where
  ticketCounter : Byte
  entries : List PendingEntry
deriving DecidableEq, Repr

/-- The contents of a REPLY (R162). -/
inductive Snapshot where
  | group (view : GroupView)
  | schema (view : SchemaView)
  | channel (view : ChannelView)
  | history (view : HistoryView)
  | pending (view : PendingView)
  | items (view : ItemsView)
deriving DecidableEq, Repr

/-- A REPLY frame (R162). -/
structure Reply where
  view : View
  argument : Byte
  currentEpoch : Word32
  snapshot : Snapshot
deriving DecidableEq, Repr

/-- A frame that a channel port sends. -/
inductive PortFrame where
  | mark (frame : MarkFrame)
  | notice (frame : Notice)
  | verdict (frame : Verdict)
  | reply (frame : Reply)
deriving DecidableEq, Repr

/-! ## Channel ports, Output Port -/

/-- The receiver phase, with the body so far and the time of its opening delimiter (R146). -/
inductive Receiver where
  | seeking
  | inFrame (body : List RxByte) (start : Tick)
deriving DecidableEq, Repr

/-- What a channel port's transmitter is sending: nothing while RST_N is low (R160), fill (R147), fill after a frame
it abandoned with an escape and a delimiter (R154), or a frame. DEDUCED: log entry 15. -/
inductive Transmitter where
  | silent
  | fill
  | abandoned
  | frame (frame : PortFrame)
deriving DecidableEq, Repr

/-- A channel port (R146). The frame in transmission is the transmitter's. -/
structure Port where
  line : LineState
  receiver : Receiver
  huntRun : Nat
  badRun : Nat
  markSlot : Option MarkFrame
  notices : List Notice
  verdicts : List Verdict
  replySlot : Option Reply
  lostNotices : Nat
  transmitter : Transmitter
deriving DecidableEq, Repr

/-- What the output link is sending (R123, R159). -/
inductive OutputLink where
  | silent
  | fill
  | frame (frame : Decision)
deriving DecidableEq, Repr

/-- The Output Port (R113). The frame in transmission is the link's. -/
structure OutputPort where
  state : OutputState
  voidRun : Nat
  goodRun : Nat
  queue : List Decision
  link : OutputLink
  safeN : Level
deriving DecidableEq, Repr

/-- A notice offered by the event being taken, not yet in a queue: to one channel, or broadcast. Stages order the
notices of a commit (R135, R137, R138); notices of one stage join in a free order (R157). -/
structure NoticeOffer where
  stage : Nat
  recipient : Option Channel
  notice : Notice
deriving DecidableEq, Repr

/-! ## The part -/

/-- The state of the part. -/
structure State where
  /-- The level of RST_N at the last tick (R175). -/
  resetPin : Level
  store : Store
  timer : Timer
  members : PerChannel Member
  groupState : GroupState
  window : Window
  standing : PerChannel Standing
  part : PartCounters
  changes : ChangeTable
  output : OutputPort
  /-- The History Buffer, newest first (R168). -/
  history : List DecisionRecord
  ports : PerChannel Port
  /-- The model's own: commands waiting, first in first out. DESIGN CHOICE: log entry 14. -/
  pending : List Instr
  /-- The model's own: how many free values have been drawn (Config). -/
  freeCount : Nat
  /-- The model's own: the notices of the event being taken; empty between commands. -/
  outbox : List NoticeOffer
deriving DecidableEq, Repr

/-- The reasons for which a step would end in a fault. The manual describes none: every event of the part leads to
a next state, so no constructor is needed and nothing raises one. -/
inductive Fault where
deriving DecidableEq, Repr

/-- The reasons for which a step is refused. -/
inductive Refusal where
  /-- Raised by `exec` alone, for a command that has no meaning in the model yet. Safe: the model stops where the
  part goes on. No arm of `exec` raises it. -/
  | notModelled (mnemonic : String)
deriving DecidableEq, Repr

/-! ## Values after power-on -/

/-- The Configuration Store after power-on (R17). -/
def Store.reset : Store where
  installed := none
  awaiting := none
  retained := []
  items := List.replicate 32 none
  schemaBoundary := none
  restartCause := .powerOn
  retainedNextCycle := none

/-- The Cycle Timer after power-on (R32). DESIGN CHOICE (log entry 1): the tick count, unspecified there, is 0. -/
def Timer.reset : Timer where
  tickCount := 0
  running := none
  foundingExpiries := []
  offers := []

/-- A channel's membership entry after power-on (R57). -/
def Member.reset : Member where
  state := .detached
  announcement := none
  holdoff := 0
  probationRun := 0
  admissionCycle := none

/-- The Round Window after power-on (R81). -/
def Window.reset : Window where
  queues := PerChannel.fill []
  rounds := []
  nextRound := none

/-- Counters at 0 (R111). -/
def Counters.zero : Counters := ⟨0, 0, 0, 0, 0, 0, 0, 0, 0, 0, 0, 0, 0, 0, 0, 0, 0, 0⟩

/-- A channel's standing after power-on (R111). -/
def Standing.reset : Standing where
  score := 0
  counters := Counters.zero

/-- The part-wide counters after power-on (R111). -/
def PartCounters.zero : PartCounters := ⟨0, 0, 0, 0, 0⟩

/-- The Change Table after power-on (R145). -/
def ChangeTable.reset : ChangeTable where
  entries := []
  ticketCounter := 0

/-- The Output Port after power-on with RST_N high (R120, R159). -/
def OutputPort.reset : OutputPort where
  state := .inactive
  voidRun := 0
  goodRun := 0
  queue := []
  link := .fill
  safeN := .low

/-- A channel port after power-on with RST_N high (R160, R147). -/
def Port.reset : Port where
  line := .down
  receiver := .seeking
  huntRun := 0
  badRun := 0
  markSlot := none
  notices := []
  verdicts := []
  replySlot := none
  lostNotices := 0
  transmitter := .fill

/-- The part after power-on, with RST_N sampled high at the first tick (DESIGN CHOICE, log entry 1: the manual gives
an input pin no value). -/
def State.reset : State where
  resetPin := .high
  store := Store.reset
  timer := Timer.reset
  members := PerChannel.fill Member.reset
  groupState := .empty
  window := Window.reset
  standing := PerChannel.fill Standing.reset
  part := PartCounters.zero
  changes := ChangeTable.reset
  output := OutputPort.reset
  history := []
  ports := PerChannel.fill Port.reset
  pending := []
  freeCount := 0
  outbox := []

end Sys2Proof.Machine
end

