-- ==== Sys2Proof/Machine/Operands.lean ====
section
/-!
DEFINITION. The payloads of the frames: how the part reads those it takes and lays out those it sends (R173), and the
encoding of a configuration (R174) with the tests of a record and a schema (R2, R4).
-/

namespace Sys2Proof.Machine

/-! ## Codes (R173) -/

def channelCode : Channel → Byte
  | .a => 0
  | .b => 1
  | .c => 2
  | .d => 3

def channelOfCode (b : Byte) : Option Channel := Channel.all.find? (fun ch => channelCode ch == b)

/-- A set of channels in one byte: bit k for the channel of code k (R173). -/
def setCode (s : ChannelSet) : Byte :=
  BitVec.ofNat 8 (s.a.toNat + 2 * s.b.toNat + 4 * s.c.toNat + 8 * s.d.toNat)

/-- The set a byte encodes; absent when any of bits 4 to 7 is set (R174). -/
def setOfCode (b : Byte) : Option ChannelSet :=
  if b.toNat < 16 then some ⟨b.getLsbD 0, b.getLsbD 1, b.getLsbD 2, b.getLsbD 3⟩ else none

def roleCode : Role → Byte
  | .voter => 1
  | .observer => 2

def roleOfCode (b : Byte) : Option Role := [Role.voter, .observer].find? (fun r => roleCode r == b)

def changeKindCode : ChangeKind → Byte
  | .found => 1
  | .group => 2
  | .schema => 3
  | .pardon => 4
  | .dissolve => 5

def changeKindOfCode (b : Byte) : Option ChangeKind :=
  [ChangeKind.found, .group, .schema, .pardon, .dissolve].find? (fun k => changeKindCode k == b)

def viewCode : View → Byte
  | .group => 1
  | .schema => 2
  | .channel => 3
  | .history => 4
  | .pending => 5
  | .items => 6

def viewOfCode (b : Byte) : Option View :=
  [View.group, .schema, .channel, .history, .pending, .items].find? (fun v => viewCode v == b)

def channelStateCode : ChannelState → Byte
  | .detached => 0
  | .linked => 1
  | .candidate => 2
  | .probation => 3
  | .voting => 4
  | .observer => 5
  | .excluded => 6

def groupStateCode : GroupState → Byte
  | .empty => 0
  | .stalled => 1
  | .active => 2

def outputStateCode : OutputState → Byte
  | .inactive => 0
  | .live => 1
  | .holdover => 2
  | .safe => 3

def roundOutcomeCode : RoundOutcome → Byte
  | .complete => 1
  | .mixed => 2
  | .void => 3

def closeCauseCode : CloseCause → Byte
  | .allIn => 1
  | .deadline => 2
  | .forced => 3

def itemOutcomeCode : ItemOutcome → Byte
  | .accepted => 1
  | .held => 2
  | .safed => 3

def ownStatusCode : OwnStatus → Byte
  | .counted => 1
  | .missing => 2
  | .shadowAgreed => 3
  | .shadowDissent => 4
  | .notVoter => 5

def exclusionReasonCode : ExclusionReason → Byte
  | .score => 1
  | .linkLost => 2

def voidReasonCode : VoidReason → Byte
  | .expired => 1
  | .superseded => 2
  | .retracted => 3
  | .proposerLeft => 4
  | .dissolved => 5

/-- The refusal reasons 1 to 16, in the order of the refusal table of Channel Links (R173). -/
def refusalReasonCode : RefusalReason → Byte
  | .noGroup => 1
  | .wrongState => 2
  | .wrongPort => 3
  | .notMember => 4
  | .notVoter => 5
  | .alreadyJoined => 6
  | .digestMismatch => 7
  | .staleEpoch => 8
  | .holdoff => 9
  | .busy => 10
  | .badField => 11
  | .unknownTicket => 12
  | .digestDiffers => 13
  | .alreadyConcurred => 14
  | .epochLimit => 15
  | .unknownKind => 16

def restartCauseCode : RestartCause → Byte
  | .powerOn => 1
  | .pin => 2
  | .dissolve => 3

def matchModeCode : MatchMode → Byte
  | .exact => 0
  | .band => 1

def matchModeOfCode (b : Byte) : Option MatchMode := [MatchMode.exact, .band].find? (fun m => matchModeCode m == b)

def signednessCode : Signedness → Byte
  | .unsigned => 0
  | .signed => 1

def signednessOfCode (b : Byte) : Option Signedness :=
  [Signedness.unsigned, .signed].find? (fun m => signednessCode m == b)

def fallbackCode : Fallback → Byte
  | .hold => 0
  | .safe => 1

def fallbackOfCode (b : Byte) : Option Fallback := [Fallback.hold, .safe].find? (fun m => fallbackCode m == b)

/-- The kind codes of the frames the part takes (R171). -/
def announceKind : Byte := 0x11
def leaveKind : Byte := 0x12
def proposalKind : Byte := 0x13
def changeKindByte : Byte := 0x14
def concurKind : Byte := 0x15
def retractKind : Byte := 0x16
def readKind : Byte := 0x17

/-! ## The configuration encoding (R174) -/

/-- The 17 bytes of a group record (R174). -/
def encodeRecord (r : GroupRecord) : List Byte :=
  setCode r.members :: (be8 r.itemQuorum ++ be8 r.changeQuorum ++ be16 r.period ++ be24 r.deadlineOffset
    ++ be16 r.changeWindow ++ be8 r.warnLevel ++ be8 r.excludeLevel ++ be8 r.probationRounds
    ++ be16 r.holdoffCycles ++ be8 r.safeAfter ++ be8 r.recoverAfter)

/-- The record that 17 bytes encode; absent when their number is another or the member set byte is out of range
(R174). -/
def decodeRecord (bytes : List Byte) : Option GroupRecord :=
  if bytes.length = 17 then
    (setOfCode (bytes.getD 0 0)).map fun members =>
      { members
        itemQuorum := field bytes 1 1
        changeQuorum := field bytes 2 1
        period := field bytes 3 2
        deadlineOffset := field bytes 5 3
        changeWindow := field bytes 8 2
        warnLevel := field bytes 10 1
        excludeLevel := field bytes 11 1
        probationRounds := field bytes 12 1
        holdoffCycles := field bytes 13 2
        safeAfter := field bytes 15 1
        recoverAfter := field bytes 16 1 }
  else none

/-- The 7 bytes of a schema entry (R174). -/
def encodeItem (e : SchemaItem) : List Byte :=
  matchModeCode e.matchMode :: signednessCode e.signedness :: (be16 e.tolerance
    ++ fallbackCode e.fallback :: be16 e.safeValue.toNat)

/-- The entry that 7 bytes encode; absent when a code is undefined (R174). -/
def decodeItem (bytes : List Byte) : Option SchemaItem :=
  match matchModeOfCode (bytes.getD 0 0), signednessOfCode (bytes.getD 1 0), fallbackOfCode (bytes.getD 4 0) with
  | some matchMode, some signedness, some fallback =>
    some
      { matchMode
        signedness
        tolerance := field bytes 2 2
        fallback
        safeValue := BitVec.ofNat 16 (field bytes 5 2) }
  | _, _, _ => none

/-- An item count and its entries (R174). -/
def encodeSchema (items : List SchemaItem) : List Byte := be8 items.length ++ items.flatMap encodeItem

/-- `n` entries of 7 bytes each, and nothing after them. -/
def decodeItems : Nat → List Byte → Option (List SchemaItem)
  | 0, bytes => if bytes = [] then some [] else none
  | n + 1, bytes =>
    if bytes.length < 7 then none
    else
      match decodeItem (bytes.take 7), decodeItems n (bytes.drop 7) with
      | some e, some rest => some (e :: rest)
      | _, _ => none

/-- The valid schema that bytes encode: an item count of 1..32, exactly that many entries, every code defined
(R4, R174). -/
def decodeSchema : List Byte → Option (List SchemaItem)
  | [] => none
  | count :: bytes => if 1 ≤ count.toNat ∧ count.toNat ≤ 32 then decodeItems count.toNat bytes else none

/-- The ranges of R1 and the cross-field tests of R2. -/
def GroupRecord.valid (r : GroupRecord) : Bool :=
  let n := r.members.card
  2 ≤ n && 2 ≤ r.itemQuorum && r.itemQuorum ≤ 4 && 2 ≤ r.changeQuorum && r.changeQuorum ≤ 4
    && 500 ≤ r.period && r.period ≤ 65535 && 100 ≤ r.deadlineOffset && r.deadlineOffset ≤ 196605
    && 4 ≤ r.changeWindow && r.changeWindow ≤ 1024
    && 1 ≤ r.warnLevel && r.warnLevel ≤ 254 && 1 ≤ r.excludeLevel && r.excludeLevel ≤ 254
    && 1 ≤ r.probationRounds && r.probationRounds ≤ 255 && r.holdoffCycles ≤ 65535
    && 1 ≤ r.safeAfter && r.safeAfter ≤ 255 && 1 ≤ r.recoverAfter && r.recoverAfter ≤ 255
    && n < 2 * r.itemQuorum && r.itemQuorum ≤ n && n < 2 * r.changeQuorum && r.changeQuorum ≤ n
    && r.deadlineOffset ≤ 3 * r.period && r.warnLevel < r.excludeLevel

/-- The digest of a configuration (R6). -/
def configurationDigest (r : GroupRecord) (items : List SchemaItem) : Word32 :=
  crc32 (encodeRecord r ++ encodeSchema items)

/-! ## Payloads the part takes (R173) -/

/-- The fields of an 18-byte ANNOUNCE; absent when its length is another or the letter or role is undefined
(R38 check 0). -/
def decodeAnnounce (p : List Byte) : Option Announcement :=
  if p.length = 18 then
    match channelOfCode (p.getD 0 0), roleOfCode (p.getD 1 0) with
    | some letter, some role =>
      some { role, letter, epoch := field32 p 2, digest := field32 p 6, identity := field32 p 10,
             softwareTag := field32 p 14 }
    | _, _ => none
  else none

/-- The fields of a PROPOSAL of 13 bytes or more (R173). -/
structure ProposalFields where
  cycle : Cycle
  epoch : Word32
  itemCount : Nat
  items : List (Option Word16)
  /-- An odd number of bytes follows the first 13. -/
  oddLength : Bool
deriving DecidableEq, Repr

/-- The items of an item list, from item `i` on: ABSTAIN where the map's bit is set (R173). -/
def proposalItems (abstainMap : Word32) : Nat → List Byte → List (Option Word16)
  | i, hi :: lo :: rest =>
    (if abstainMap.getLsbD i then none else some (BitVec.ofNat 16 (hi.toNat * 256 + lo.toNat)))
      :: proposalItems abstainMap (i + 1) rest
  | _, _ => []

/-- A PROPOSAL's fields; absent when it is shorter than 13 bytes (R173). -/
def decodeProposal (p : List Byte) : Option ProposalFields :=
  if p.length < 13 then none
  else
    some { cycle := field32 p 0, epoch := field32 p 4, itemCount := field p 8 1,
           items := proposalItems (field32 p 9) 0 (p.drop 13), oddLength := (p.length - 13) % 2 == 1 }

/-- A ticket and a payload digest; a missing byte is 0, and bytes beyond the layout are ignored (R173). -/
def decodeConcur (p : List Byte) : Byte × Word32 := (p.getD 0 0, field32 (p ++ List.replicate 5 0) 1)

/-- A ticket; a missing byte is 0 (R173). -/
def decodeRetract (p : List Byte) : Byte := p.getD 0 0

/-- The kind of a change's payload (R128). -/
def Payload.kind : Payload → ChangeKind
  | .found _ _ => .found
  | .group _ => .group
  | .schema _ => .schema
  | .pardon _ => .pardon
  | .dissolve => .dissolve

/-- The valid record that bytes encode (R2, R174). -/
def validRecord (bytes : List Byte) : Option GroupRecord :=
  match decodeRecord bytes with
  | some r => if r.valid then some r else none
  | none => none

/-- The payload of a change of this kind; absent when a test of R130 on its length, record, schema or letter fails.
`installed` is the installed member set. -/
def decodePayload (kind : ChangeKind) (installed : ChannelSet) (bytes : List Byte) : Option Payload :=
  match kind with
  | .found =>
    match validRecord (bytes.take 17), decodeSchema (bytes.drop 17) with
    | some r, some items => some (.found r items)
    | _, _ => none
  | .group => (validRecord bytes).map .group
  | .schema => (decodeSchema bytes).map .schema
  | .pardon =>
    match bytes with
    | [letter] =>
      match channelOfCode letter with
      | some ch => if installed.get ch then some (.pardon ch) else none
      | none => none
    | _ => none
  | .dissolve => if bytes = [] then some .dissolve else none

/-! ## Payloads the part sends (R173) -/

def optional {α : Type} (bytes : α → List Byte) : Option α → List Byte
  | none => [0]
  | some x => 1 :: bytes x

def listed {α : Type} (bytes : α → List Byte) (l : List α) : List Byte := be8 l.length ++ l.flatMap bytes

def encodeMark (f : MarkFrame) : List Byte :=
  be32 f.cycle ++ be32 f.epoch ++ [groupStateCode f.groupState, outputStateCode f.outputState]

def encodeItemResult (r : ItemResult) : List Byte := be16 r.value.toNat ++ itemOutcomeCode r.outcome :: be8 r.age

def encodeVerdict (v : Verdict) : List Byte :=
  be32 v.cycle ++ be32 v.epoch ++ [roundOutcomeCode v.outcome, closeCauseCode v.cause, outputStateCode v.outputState]
    ++ listed encodeItemResult v.items ++ ownStatusCode v.ownStatus :: be8 v.score ++ listed be8 v.dissent

def encodeDecision (d : Decision) : List Byte :=
  be32 d.cycle ++ be32 d.epoch ++ outputStateCode d.outputState :: listed encodeItemResult d.items

/-- A notice code and the notice's fields (R173). -/
def encodeNotice : Notice → List Byte
  | .admitted st => [0x01, channelStateCode st]
  | .refused request reason => [0x02, request, refusalReasonCode reason]
  | .promoted => [0x03]
  | .excluded ch reason => [0x04, channelCode ch, exclusionReasonCode reason]
  | .advisory score => 0x05 :: be8 score
  | .groupState st => [0x06, groupStateCode st]
  | .outputState st => [0x07, outputStateCode st]
  | .changePending ticket kind proposer digest expiry =>
    [0x08, ticket, changeKindCode kind, channelCode proposer] ++ be32 digest ++ optional be32 expiry
  | .concurred ticket count => [0x09, ticket] ++ be8 count
  | .changeCommitted ticket epoch digest activation =>
    [0x0A, ticket] ++ be32 epoch ++ be32 digest ++ optional be32 activation
  | .changeVoided ticket reason => [0x0B, ticket, voidReasonCode reason]
  | .activated epoch cycle => 0x0C :: be32 epoch ++ be32 cycle
  | .lost count => 0x0D :: be8 count

/-- The counters of R107 in the order of its table, two bytes each (R173). -/
def encodeCounters (c : Counters) : List Byte :=
  [c.framesGood, c.framesBad, c.unknownKind, c.proposalsTaken, c.late, c.early, c.epochWrong, c.duplicate,
    c.queueFull, c.notVoter, c.missingRounds, c.dissentRounds, c.abstainRounds, c.agreeRounds, c.admissions,
    c.exclusions, c.marksSkipped, c.verdictsDropped].flatMap be16

def encodePartCounters (c : PartCounters) : List Byte :=
  be32 (BitVec.ofNat 32 c.decisions)
    ++ [c.forcedCloses, c.outputOverruns, c.changesCommitted, c.changesVoided].flatMap be16

def encodeAnnouncement (a : Announcement) : List Byte :=
  [channelCode a.letter, roleCode a.role] ++ be32 a.epoch ++ be32 a.digest ++ be32 a.identity ++ be32 a.softwareTag

def encodeItemState (e : ItemState) : List Byte :=
  be16 e.value.toNat ++ be32 e.acceptanceCycle ++ be8 e.saturated.toNat

def encodeDecisionRecord (r : DecisionRecord) : List Byte :=
  be32 r.cycle ++ be32 r.epoch ++ [closeCauseCode r.cause, roundOutcomeCode r.outcome, outputStateCode r.outputState]
    ++ listed encodeItemResult r.items

def encodePendingTime : PendingTime → List Byte
  | .expires c => be32 c
  | .ticksLeft t => be32 t
  | .activates c => be32 c

def encodePendingEntry (e : PendingEntry) : List Byte :=
  [e.ticket, changeKindCode e.kind, channelCode e.proposer] ++ be32 e.baseEpoch ++ be32 e.payloadDigest
    ++ [setCode e.concurrence, if e.committed then 2 else 1] ++ encodePendingTime e.time

def encodeGroupView (v : GroupView) : List Byte :=
  be32 v.installedEpoch ++ be32 v.installedDigest ++ be32 v.currentEpoch ++ be32 v.currentDigest
    ++ optional (fun w => changeKindCode w.1 :: be32 w.2) v.awaiting
    ++ optional encodeRecord v.record
    ++ [restartCauseCode v.restartCause, groupStateCode v.groupState]
    ++ Channel.all.map (fun ch => channelStateCode (v.states.get ch))
    ++ outputStateCode v.outputState :: (be8 v.voidRun ++ be8 v.goodRun)
    ++ optional (fun t => be32 t.1 ++ be16 t.2.1 ++ be24 t.2.2) v.timer
    ++ encodePartCounters v.part

/-- The contents of a REPLY (R173). -/
def encodeSnapshot : Snapshot → List Byte
  | .group v => encodeGroupView v
  | .schema v => be8 v.itemCount ++ be32 v.epoch ++ listed (fun e => be8 e.1 ++ encodeItem e.2) v.entries
  | .items v =>
    be8 v.itemCount ++ be32 v.epoch ++ optional be32 v.boundary
      ++ listed (fun e => be8 e.1 ++ optional encodeItemState e.2) v.entries
  | .channel v =>
    channelStateCode v.member.state :: (optional encodeAnnouncement v.member.announcement
      ++ be16 v.member.holdoff ++ be8 v.member.probationRun ++ optional be32 v.member.admissionCycle
      ++ be8 v.standing.score ++ encodeCounters v.standing.counters)
  | .history v => be8 v.present ++ be32 (BitVec.ofNat 32 v.decisions) ++ optional encodeDecisionRecord v.record
  | .pending v => v.ticketCounter :: listed encodePendingEntry v.entries

def encodeReply (r : Reply) : List Byte :=
  [viewCode r.view, r.argument] ++ be32 r.currentEpoch ++ encodeSnapshot r.snapshot

/-- The kind code and payload of a frame that a channel port sends (R171, R173). -/
def PortFrame.encode : PortFrame → Byte × List Byte
  | .mark f => (0x21, encodeMark f)
  | .verdict f => (0x22, encodeVerdict f)
  | .notice f => (0x23, encodeNotice f)
  | .reply f => (0x24, encodeReply f)

/-- The bytes that a channel port's transmitter puts on the line for what it is sending: none while silent, a
delimiter of fill, the escape and delimiter that cut off a frame (R154), or a whole frame (R171). DEDUCED: log entry 12.
Each frame has an opening and a closing delimiter of its own, where R171 lets one delimiter close a frame and open the next.
DESIGN CHOICE: log entry 20. -/
def Transmitter.bytes : Transmitter → List Byte
  | .silent => []
  | .fill => [delimiter]
  | .abandoned => [escapeByte, delimiter]
  | .frame f => frameOnLine f.encode.1 f.encode.2

/-- The bytes that the output link puts on its line (R159, R171), each frame with both delimiters of its own. DESIGN CHOICE:
log entry 20. -/
def OutputLink.bytes : OutputLink → List Byte
  | .silent => []
  | .fill => [delimiter]
  | .frame d => frameOnLine 0x25 (encodeDecision d)

/-- The levels that a channel port's transmitter puts on the line, byte after byte without a gap; a silent one leaves the
line at rest (R171). -/
def Transmitter.bits (t : Transmitter) : List Bool := t.bytes.flatMap bitsOnLine

/-- The levels that the output link puts on its line (R159, R171). -/
def OutputLink.bits (l : OutputLink) : List Bool := l.bytes.flatMap bitsOnLine

end Sys2Proof.Machine
end

