-- ==== Sys2Proof/Machine/Flags.lean ====
section
/-!
DEFINITION. The status the part derives from its state: the configuration in force for a cycle, the VOTING set, the
group state, the SAFE_N level, ages, weights, and the output transitions.
-/

namespace Sys2Proof.Machine

/-! ## Configurations (R7, R8) -/

/-- The current configuration (R7). -/
def Store.current (st : Store) : Option Configuration :=
  match st.awaiting with
  | some w => some w.config
  | none => st.installed

/-- The current epoch, 0 when EMPTY (R5, R7). -/
def Store.currentEpoch (st : Store) : Word32 := (st.current.map (·.epoch)).getD 0

/-- The current digest, 0 when EMPTY (R6, R7). -/
def Store.currentDigest (st : Store) : Word32 := (st.current.map (·.digest)).getD 0

/-- The retained configuration for a cycle older than the installed first cycle: the one whose span holds it, and the
oldest when it is older than every span (R8). A span ends before the first cycle of the configuration that followed.
DEDUCED: log entry 10. -/
def retainedFor (c : Cycle) : List Configuration → Option Configuration
  | [] => none
  | [r] => some r
  | r :: next :: rest => if older c next.firstCycle then some r else retainedFor c (next :: rest)

/-- The configuration in force for a cycle (R8). -/
def Store.inForce (st : Store) (c : Cycle) : Option Configuration :=
  let settled :=
    match st.installed with
    | some cfg => if st.retained ≠ [] && older c cfg.firstCycle then retainedFor c st.retained else some cfg
    | none => none
  match st.awaiting with
  | some w => if sameOrNewer c w.config.firstCycle then some w.config else settled
  | none => settled

/-- The epoch in force for a cycle, 0 when EMPTY (R8). -/
def Store.epochInForce (st : Store) (c : Cycle) : Word32 := ((st.inForce c).map (·.epoch)).getD 0

/-- The group is EMPTY: no configuration is installed (R51). -/
def State.isEmpty (s : State) : Bool := s.store.installed.isNone

/-! ## Channels (R34, R51) -/

/-- CANDIDATE, PROBATION and VOTING are the voter states (R34). -/
def ChannelState.isVoter : ChannelState → Bool
  | .candidate | .probation | .voting => true
  | .detached | .linked | .observer | .excluded => false

/-- PROBATION and VOTING channels are scored (R34, R101). -/
def ChannelState.isScored : ChannelState → Bool
  | .probation | .voting => true
  | .detached | .linked | .candidate | .observer | .excluded => false

/-- PROBATION, VOTING and OBSERVER channels receive a VERDICT (R124). -/
def ChannelState.receivesVerdict : ChannelState → Bool
  | .probation | .voting | .observer => true
  | .detached | .linked | .candidate | .excluded => false

/-- The VOTING set (00_scope.md, Channels). -/
def State.votingSet (s : State) : ChannelSet :=
  PerChannel.build fun ch => (s.members.get ch).state == .voting

/-- The group state that the configuration and the VOTING set give (R51). -/
def State.derivedGroupState (s : State) : GroupState :=
  match s.store.installed with
  | none => .empty
  | some cfg => if cfg.record.itemQuorum ≤ s.votingSet.card then .active else .stalled

/-! ## Counters and scores (R101, R107) -/

/-- A 16-bit counter increased by one, stopping at 65535 (00_scope.md, Numbers and ranges). -/
def saturate16 (n : Nat) : Nat := min (n + 1) 65535

/-- A 32-bit counter increased by one, stopping at 2^32 − 1 (R108). -/
def saturate32 (n : Nat) : Nat := min (n + 1) 4294967295

/-- A channel's counters with one of them incremented (R107). -/
def Counters.bump (c : Counters) : CounterName → Counters
  | .framesGood => { c with framesGood := saturate16 c.framesGood }
  | .framesBad => { c with framesBad := saturate16 c.framesBad }
  | .unknownKind => { c with unknownKind := saturate16 c.unknownKind }
  | .proposalsTaken => { c with proposalsTaken := saturate16 c.proposalsTaken }
  | .late => { c with late := saturate16 c.late }
  | .early => { c with early := saturate16 c.early }
  | .epochWrong => { c with epochWrong := saturate16 c.epochWrong }
  | .duplicate => { c with duplicate := saturate16 c.duplicate }
  | .queueFull => { c with queueFull := saturate16 c.queueFull }
  | .notVoter => { c with notVoter := saturate16 c.notVoter }
  | .missingRounds => { c with missingRounds := saturate16 c.missingRounds }
  | .dissentRounds => { c with dissentRounds := saturate16 c.dissentRounds }
  | .abstainRounds => { c with abstainRounds := saturate16 c.abstainRounds }
  | .agreeRounds => { c with agreeRounds := saturate16 c.agreeRounds }
  | .admissions => { c with admissions := saturate16 c.admissions }
  | .exclusions => { c with exclusions := saturate16 c.exclusions }
  | .marksSkipped => { c with marksSkipped := saturate16 c.marksSkipped }
  | .verdictsDropped => { c with verdictsDropped := saturate16 c.verdictsDropped }

/-- The score after a weight, within 0..255 (R101). -/
def weighted (score : Nat) (weight : Int) : Nat := min ((score : Int) + weight).toNat 255

/-- What the comparison of R102 gives for the scores before and after a weight. -/
inductive ScoreEffect where
  | nothing
  | advisory
  | exclusion
deriving DecidableEq, Repr

/-- The comparison of R102. -/
def scoreEffect (r : GroupRecord) (before after : Nat) : ScoreEffect :=
  if r.excludeLevel ≤ after then .exclusion
  else if before < r.warnLevel ∧ r.warnLevel ≤ after then .advisory
  else .nothing

/-! ## Item ages (R14) -/

/-- How many cycles ago an entry was accepted, modulo 2^32 (R14). -/
def ItemState.distance (e : ItemState) (c : Cycle) : Nat := (c - e.acceptanceCycle).toNat

/-- The age of an entry at the close of round `c` (R14). -/
def ItemState.age (e : ItemState) (c : Cycle) : Nat :=
  if e.saturated then 255 else if e.distance c ≤ 254 then e.distance c else 255

/-! ## Output states (R114, R115) -/

/-- The SAFE_N level of an output state (R114). -/
def OutputState.safeNLevel : OutputState → Level
  | .live | .holdover => .high
  | .inactive | .safe => .low

/-- The output state and its two runs. -/
structure OutputRuns where
  state : OutputState
  voidRun : Nat
  goodRun : Nat
deriving DecidableEq, Repr

/-- The transition of a close (R115). -/
def OutputRuns.after (o : OutputRuns) (outcome : RoundOutcome) (safeAfter recoverAfter : Nat) : OutputRuns :=
  match o.state, outcome with
  | .live, .void => if safeAfter ≤ 1 then ⟨.safe, 0, o.goodRun⟩ else ⟨.holdover, 1, o.goodRun⟩
  | .live, _ => ⟨.live, 0, o.goodRun⟩
  | .holdover, .void =>
    if safeAfter ≤ o.voidRun + 1 then ⟨.safe, 0, o.goodRun⟩ else ⟨.holdover, o.voidRun + 1, o.goodRun⟩
  | .holdover, _ => ⟨.live, 0, o.goodRun⟩
  | .safe, .complete =>
    if recoverAfter ≤ o.goodRun + 1 then ⟨.live, o.voidRun, 0⟩ else ⟨.safe, o.voidRun, o.goodRun + 1⟩
  | .safe, _ => ⟨.safe, o.voidRun, 0⟩
  | .inactive, _ => o

/-! ## Rounds (R59, R62, R70) -/

/-- A round is OPEN until it is sealed (R59). -/
def Round.isOpen (r : Round) : Bool := r.sealedBy.isNone

/-- A round is complete when the VOTING set is not empty and lies in its arrival set (R70). -/
def Round.isComplete (r : Round) (voting : ChannelSet) : Bool := voting != ChannelSet.empty && voting.within r.arrival

/-- The close cause that a seal cause gives (R76). -/
def SealCause.closeCause : SealCause → CloseCause
  | .allIn => .allIn
  | .deadline => .deadline

/-- How a cycle stands to the acceptance span (R62). -/
inductive SpanClass where
  | inside
  | newer
  | behind
deriving DecidableEq, Repr

/-- The place of cycle `c` against the acceptance span, from the oldest present round to the next round number (R62). -/
def Window.spanClass (w : Window) (next c : Cycle) : SpanClass :=
  let first := (w.rounds.head?.map (·.cycle)).getD next
  if (c - first).toNat ≤ (next - first).toNat then .inside
  else if older next c then .newer
  else .behind

/-! ## Change entries (R128, R134) -/

/-- The entry's member set to be founded; absent when the entry is of another kind. -/
def Payload.foundingMembers : Payload → Option ChannelSet
  | .found r _ => some r.members
  | .group _ | .schema _ | .pardon _ | .dissolve => none

/-- The entry is a FOUND entry (R128). -/
def ChangeEntry.isFound (e : ChangeEntry) : Bool := e.payload.foundingMembers.isSome

/-- The entry is PENDING (R127). -/
def ChangeEntry.isPending (e : ChangeEntry) : Bool := e.state == .pending

/-- The commit test (R134), with Qc of the installed configuration. -/
def ChangeEntry.quorumMet (e : ChangeEntry) (installed : Option Configuration) : Bool :=
  match e.payload.foundingMembers with
  | some members => e.concurrence == members
  | none =>
    match installed with
    | some cfg => cfg.record.changeQuorum ≤ e.concurrence.card
    | none => false

end Sys2Proof.Machine
end

