-- ==== Sys2Proof/Machine/Ops.lean ====
section
/-!
DEFINITION. The operations that several events share: updates of one block's state, notices, counters, weights,
departures, the completeness check, the group state, exclusion and the loss of a link.
-/

namespace Sys2Proof.Machine

/-! ## One channel's state -/

/-- The state with a channel's membership entry updated. -/
def State.modMember (s : State) (ch : Channel) (f : Member → Member) : State :=
  { s with members := s.members.set ch (f (s.members.get ch)) }

/-- The state with a channel's standing updated. -/
def State.modStanding (s : State) (ch : Channel) (f : Standing → Standing) : State :=
  { s with standing := s.standing.set ch (f (s.standing.get ch)) }

/-- The state with a channel's port updated. -/
def State.modPort (s : State) (ch : Channel) (f : Port → Port) : State :=
  { s with ports := s.ports.set ch (f (s.ports.get ch)) }

/-- The state of a channel in the Membership Table. -/
def State.channelState (s : State) (ch : Channel) : ChannelState := (s.members.get ch).state

/-- The link of a channel is UP. -/
def State.isUp (s : State) (ch : Channel) : Bool := (s.ports.get ch).line == .up

/-- A per-channel counter incremented (R107). -/
def State.count (s : State) (ch : Channel) (name : CounterName) : State :=
  s.modStanding ch fun st => { st with counters := st.counters.bump name }

/-- The tick count moved on to `t` when it has not reached it yet. The commands of timed events carry the ticks that
pass up to their time (log entry 4). -/
def State.reachTick (s : State) (t : Tick) : State :=
  if older s.timer.tickCount t then { s with timer := { s.timer with tickCount := t } } else s

/-! ## Notices (R155, R157) -/

/-- A notice offered to one channel. -/
def State.send (s : State) (ch : Channel) (n : Notice) : State :=
  { s with outbox := s.outbox ++ [⟨0, some ch, n⟩] }

/-- A notice broadcast, at a stage of the event's order. -/
def State.broadcastAt (s : State) (stage : Nat) (n : Notice) : State :=
  { s with outbox := s.outbox ++ [⟨stage, none, n⟩] }

/-- A notice broadcast (00_scope.md, Names). -/
def State.broadcast (s : State) (n : Notice) : State := s.broadcastAt 0 n

/-- REFUSED, carrying the code of the request and the reason, offered to the requester. -/
def State.refuse (s : State) (ch : Channel) (request : Byte) (reason : RefusalReason) : State :=
  s.send ch (.refused request reason)

/-- A notice joins a port's queue, or is dropped and counted when 8 wait (R157). -/
def Port.takeNotice (p : Port) (n : Notice) : Port :=
  if p.notices.length < 8 then { p with notices := p.notices ++ [n] }
  else { p with lostNotices := min (p.lostNotices + 1) 255 }

/-- `x` put at place `n` of a list, or at its end when it is shorter. -/
def insertAt {α : Type} : List α → Nat → α → List α
  | [], _, x => [x]
  | y :: l, 0, x => x :: y :: l
  | y :: l, n + 1, x => y :: insertAt l n x

/-- A list in an order that free values choose (R157). -/
def shuffled {α : Type} : List α → Nat → List α
  | [], _ => []
  | x :: l, draw => insertAt (shuffled l (draw + 1)) (Config.noticeOrder draw) x

/-- The notices of an outbox for a channel at one stage. -/
def noticesFor (outbox : List NoticeOffer) (ch : Channel) (stage : Nat) : List Notice :=
  (outbox.filter fun o => o.stage == stage && (o.recipient == none || o.recipient == some ch)).map (·.notice)

/-- The notices of an event in the order in which they join a channel's queue (R157). -/
def noticesInOrder (outbox : List NoticeOffer) (ch : Channel) (draw : Nat) : List Notice :=
  (List.range 4).flatMap fun stage =>
    shuffled (noticesFor outbox ch stage) (draw + stage * outbox.length)

/-- The notices of an event placed in one port's queue; a port that is not UP discards them (R155, R157). -/
def State.deliverNotices (s : State) (ch : Channel) : State :=
  if s.isUp ch then
    { s.modPort ch (fun p => (noticesInOrder s.outbox ch s.freeCount).foldl Port.takeNotice p) with
      freeCount := s.freeCount + 4 * s.outbox.length }
  else s

/-- The event has been taken whole: its notices are in the queues. -/
def State.settleNotices (s : State) : State :=
  { Channel.all.foldl State.deliverNotices s with outbox := [] }

/-! ## Sealing (R70 to R73) -/

/-- The completeness check for the rounds selected: an OPEN round found complete seals ALL_IN (R70, R71). -/
def State.checkComplete (s : State) (selected : Round → Bool) : State :=
  let voting := s.votingSet
  { s with
    window := { s.window with
      rounds := s.window.rounds.map fun r =>
        if selected r && r.isOpen && r.isComplete voting then { r with sealedBy := some ⟨.allIn, voting⟩ } else r } }

/-- The completeness check for every OPEN round, where the VOTING set is not what it was (R50, R73). -/
def State.checkIfVotingChanged (before s : State) : State :=
  if s.votingSet = before.votingSet then s else s.checkComplete fun _ => true

/-- The group state recomputed, with GROUP_STATE broadcast when it changes (R51). -/
def State.recomputeGroup (s : State) : State :=
  let now := s.derivedGroupState
  if now = s.groupState then s else { s with groupState := now }.broadcast (.groupState now)

/-- After membership changes of one event: the completeness check with the VOTING set they leave, and the group state
(R50, R51, R98). -/
def State.settleMembership (before s : State) : State := (State.checkIfVotingChanged before s).recomputeGroup

/-! ## Departures (R80, R141) -/

/-- A channel's proposal queue emptied; the channel leaves every arrival set (R80). -/
def State.emptyQueue (s : State) (ch : Channel) : State :=
  { s with
    window := { s.window with
      queues := s.window.queues.set ch []
      rounds := s.window.rounds.map fun r => { r with arrival := r.arrival.set ch false } } }

/-- The founding expiry of a ticket removed (R28). -/
def State.dropFoundingExpiry (s : State) (ticket : Byte) : State :=
  { s with
    timer := { s.timer with foundingExpiries := s.timer.foundingExpiries.filter fun e => e.ticket != ticket } }

/-- An entry removed from the Change Table. -/
def State.removeEntry (s : State) (ticket : Byte) : State :=
  { s with changes := { s.changes with entries := s.changes.entries.filter fun e => e.ticket != ticket } }

/-- A void counted (R108). -/
def State.countVoid (s : State) : State :=
  { s with part := { s.part with changesVoided := saturate16 s.part.changesVoided } }

/-- A commit counted (R108). -/
def State.countCommit (s : State) : State :=
  { s with part := { s.part with changesCommitted := saturate16 s.part.changesCommitted } }

/-- An entry voided: removed with its founding expiry, reported by CHANGE_VOIDED and counted (R28, R108, R140 to
R143). -/
def State.voidEntry (s : State) (stage : Nat) (reason : VoidReason) (ticket : Byte) : State :=
  (((s.removeEntry ticket).dropFoundingExpiry ticket).broadcastAt stage (.changeVoided ticket reason)).countVoid

/-- The state with an entry updated. -/
def State.modEntry (s : State) (ticket : Byte) (f : ChangeEntry → ChangeEntry) : State :=
  { s with
    changes := { s.changes with entries := s.changes.entries.map fun e => if e.ticket = ticket then f e else e } }

/-- What a departure does to one entry (R141). The departures of one event come one after another, in letter order
(DESIGN CHOICE: log entry 16). -/
def State.departFrom (ch : Channel) (s : State) (e : ChangeEntry) : State :=
  if e.proposer = ch then s.voidEntry 0 .proposerLeft e.ticket
  else if e.concurrence.get ch then
    (s.modEntry e.ticket fun e => { e with concurrence := e.concurrence.set ch false }).broadcast
      (.concurred e.ticket (ChannelSet.card (e.concurrence.set ch false)))
  else s

/-- A departure handed to the Change Table (R141): it reaches the PENDING entries selected. -/
def State.depart (s : State) (ch : Channel) (reached : ChangeEntry → Bool) : State :=
  (s.changes.entries.filter fun e => e.isPending && reached e).foldl (State.departFrom ch) s

/-- The hand-offs of a channel that leaves the voter states, whose state was `was` (R50): its queue is emptied, and
when it left VOTING its departure reaches the Change Table. -/
def State.leaveVoters (s : State) (ch : Channel) (was : ChannelState) : State :=
  let s := if was.isVoter then s.emptyQueue ch else s
  if was = .voting then s.depart ch fun e => !e.isFound else s

/-! ## Exclusion and weights (R37, R46, R101, R102) -/

/-- holdoff_cycles of the current configuration (R7, R37, R46). -/
def State.currentHoldoff (s : State) : Nat := (s.store.current.map (·.record.holdoffCycles)).getD 0

/-- A channel excluded: to EXCLUDED for its score, or to DETACHED for its link, with its holdoff set, the exclusion
counted and broadcast, and the hand-offs made (R37, R46). The completeness check and the group state follow for all
the exclusions of the event together. -/
def State.excludeChannel (s : State) (reason : ExclusionReason) (ch : Channel) : State :=
  let was := s.channelState ch
  let s := s.modMember ch fun m =>
    { m with
      state := (match reason with | .score => .excluded | .linkLost => .detached)
      probationRun := 0
      holdoff := s.currentHoldoff }
  ((s.count ch .exclusions).broadcast (.excluded ch reason)).leaveVoters ch was

/-- A weight applied to a channel that is PROBATION or VOTING, with ADVISORY where R102 sends it. The second part is
whether an exclusion claim is raised (R101, R102). -/
def State.weigh (s : State) (ch : Channel) (weight : Int) : State × Bool :=
  if (s.channelState ch).isScored then
    let before := (s.standing.get ch).score
    let after := weighted before weight
    let s := s.modStanding ch fun st => { st with score := after }
    match s.store.installed with
    | some cfg =>
      match scoreEffect cfg.record before after with
      | .exclusion => (s, true)
      | .advisory => (s.send ch (.advisory after), false)
      | .nothing => (s, false)
    | none => (s, false)
  else (s, false)

/-- A weight of an event at one channel, with the exclusion it may claim (R46, R66, R104). -/
def State.weighAndExclude (s : State) (ch : Channel) (weight : Int) : State :=
  let (s', claimed) := s.weigh ch weight
  if claimed then State.settleMembership s' (s'.excludeChannel .score ch) else s'

/-! ## Loss of a link (R36, R37, R154) -/

/-- The loss of a channel's link, as the Membership Table takes it (R36, R37). -/
def State.linkLoss (s : State) (ch : Channel) : State :=
  let was := s.channelState ch
  match was with
  | .candidate | .probation | .voting => State.settleMembership s (s.excludeChannel .linkLost ch)
  | .linked | .observer | .excluded =>
    let s := s.modMember ch fun m => { m with state := .detached, probationRun := 0 }
    if was = .linked && s.isEmpty then s.depart ch fun e => e.isFound else s
  | .detached => s

/-- A port's slots emptied and its frame in transmission abandoned (R154, steps 1 to 3). -/
def Port.leaveUp (p : Port) : Port :=
  { p with
    markSlot := none
    notices := []
    verdicts := []
    replySlot := none
    lostNotices := 0
    transmitter := (match p.transmitter with | .frame _ => .abandoned | t => t) }

/-- A port whose line leaves UP for `line` (R154). -/
def State.leaveUp (s : State) (ch : Channel) (line : LineState) : State :=
  let s := if (s.ports.get ch).markSlot.isSome then s.count ch .marksSkipped else s
  (s.modPort ch fun p => { p.leaveUp with line := line, huntRun := 0, badRun := 0 }).linkLoss ch

end Sys2Proof.Machine
end

