-- ==== Sys2Proof/Machine/Evaluator.lean ====
section
/-!
DEFINITION. The Evaluator (Vote Evaluation): the close record, the vote of each item, the fallbacks, the round outcome
and the per-channel results. It keeps no state; everything here is a function of the close record, the configuration in
force and the item state table.
-/

namespace Sys2Proof.Machine

/-! ## The close record (R75, R76) -/

/-- A channel's part in a close. -/
inductive Part where
  /-- In the counted set, with its entry or marked missing (R75). -/
  | counted (entry : Option QueueEntry)
  /-- In the compared set, with its entry or marked missing (R75). -/
  | compared (entry : Option QueueEntry)
  /-- OBSERVER, or VOTING without being counted: it receives a VERDICT and nothing else (R95). -/
  | onlooker
  /-- Neither judged nor told (R95). -/
  | outside
deriving DecidableEq, Repr

/-- The entry of a queue for a cycle (R58, R75). -/
def entryFor (q : List QueueEntry) (c : Cycle) : Option QueueEntry := q.find? fun e => e.cycle == c

/-- A channel's part in the close of round `r` (R75, R95). A round closed without a seal counts the whole VOTING set. -/
def partOf (r : Round) (st : ChannelState) (ch : Channel) (entry : Option QueueEntry) : Part :=
  match st with
  | .voting =>
    match r.sealedBy with
    | some sl => if sl.voters.get ch then .counted entry else .onlooker
    | none => .counted entry
  | .probation => .compared entry
  | .observer => .onlooker
  | .detached | .linked | .candidate | .excluded => .outside

/-- The parts of the four channels at the instant of a close (R75, R76). -/
def State.partsAtClose (s : State) (r : Round) : PerChannel Part :=
  PerChannel.build fun ch => partOf r (s.channelState ch) ch (entryFor (s.window.queues.get ch) r.cycle)

/-- The entry of a counted channel. -/
def Part.countedEntry : Part → Option QueueEntry
  | .counted e => e
  | .compared _ | .onlooker | .outside => none

/-- The channel is in the counted set. -/
def Part.isCounted : Part → Bool
  | .counted _ => true
  | .compared _ | .onlooker | .outside => false

/-- The value an entry gives for item `i`; none where it abstains. -/
def QueueEntry.valueAt (e : QueueEntry) (i : Nat) : Option Word16 := (e.items.getD i none)

/-- The value list of item `i`, in channel order (R83). -/
def valueList (parts : PerChannel Part) (i : Nat) : List Word16 :=
  Channel.all.filterMap fun ch => ((parts.get ch).countedEntry).bind (·.valueAt i)

/-- The number of channels of the counted set (R84). -/
def countedSize (parts : PerChannel Part) : Nat := (Channel.all.filter fun ch => (parts.get ch).isCounted).length

/-! ## Voting an item (R85 to R87) -/

/-- A value as an item's signedness reads it (R86). -/
def SchemaItem.reading (item : SchemaItem) (v : Word16) : Int :=
  match item.signedness with
  | .unsigned => v.toNat
  | .signed => v.toInt

/-- The distance between two values (R86). -/
def SchemaItem.distance (item : SchemaItem) (v w : Word16) : Nat := (item.reading v - item.reading w).natAbs

/-- A value agrees with the decided value of an item (R85, R87, R94). -/
def SchemaItem.agrees (item : SchemaItem) (decided v : Word16) : Bool :=
  match item.matchMode with
  | .exact => v == decided
  | .band => item.distance v decided ≤ item.tolerance

/-- The leading value of a list: the one whose count no other shares or exceeds (R85). -/
def leadingValue (values : List Word16) : Option Word16 :=
  values.find? fun v => values.all fun w => w == v || values.count w < values.count v

/-- A value put in its place in a list ordered ascending as the item reads it (R87). -/
def SchemaItem.insert (item : SchemaItem) (v : Word16) : List Word16 → List Word16
  | [] => [v]
  | w :: rest => if item.reading v ≤ item.reading w then v :: w :: rest else w :: item.insert v rest

/-- A list ordered ascending as the item reads it (R87, step 1). -/
def SchemaItem.ordered (item : SchemaItem) (values : List Word16) : List Word16 := values.foldr item.insert []

/-- The candidate value: the lower median (R87, step 2). -/
def SchemaItem.candidate (item : SchemaItem) (values : List Word16) : Option Word16 :=
  (item.ordered values)[(values.length - 1) / 2]?

/-- The decided value of an item; none where it is not accepted (R85, R87). -/
def SchemaItem.vote (item : SchemaItem) (quorum : Nat) (values : List Word16) : Option Word16 :=
  match item.matchMode with
  | .exact =>
    match leadingValue values with
    | some v => if quorum ≤ values.count v then some v else none
    | none => none
  | .band =>
    match item.candidate values with
    | some v => if quorum ≤ (values.filter fun w => item.agrees v w).length then some v else none
    | none => none

/-! ## Fallback and age (R88, R89) -/

/-- What an item takes (R83, R88, R89): the decided value, or its fallback from the item's entry. -/
def SchemaItem.result (item : SchemaItem) (c : Cycle) (decided : Option Word16) (entry : Option ItemState) :
    ItemResult :=
  match decided with
  | some v => ⟨v, .accepted, 0⟩
  | none =>
    match item.fallback, entry with
    | .hold, some e => ⟨e.value, .held, e.age c⟩
    | .hold, none => ⟨item.safeValue, .safed, 255⟩
    | .safe, _ => ⟨item.safeValue, .safed, 255⟩

/-- An item with its decided value. -/
structure ItemVote where
  item : SchemaItem
  decided : Option Word16
deriving DecidableEq, Repr

/-- The votes of the items from item `i` on; none is decided where the counted set is smaller than Qi (R83, R84). -/
def votesFrom (quorum : Nat) (parts : PerChannel Part) : Nat → List SchemaItem → List ItemVote
  | _, [] => []
  | i, item :: rest =>
    ⟨item, if countedSize parts < quorum then none else item.vote quorum (valueList parts i)⟩
      :: votesFrom quorum parts (i + 1) rest

/-- The item results of a round, read from the item state table (R97). -/
def resultsFrom (c : Cycle) : List ItemVote → List (Option ItemState) → List ItemResult
  | [], _ => []
  | v :: rest, table => v.item.result c v.decided (table.headD none) :: resultsFrom c rest table.tail

/-- The round outcome (R90). -/
def roundOutcome (votes : List ItemVote) : RoundOutcome :=
  if votes.all fun v => v.decided.isSome then .complete
  else if votes.any fun v => v.decided.isSome then .mixed
  else .void

/-! ## The channels (R92 to R96) -/

/-- The standing class of a channel at a close (R93). -/
inductive StandingClass where
  | missing | dissent | abstain | agreed | neutral
deriving DecidableEq, Repr

/-- The probation result of a channel at a close (R94); `noResult` is the manual's NONE. -/
inductive ProbationResult where
  | agreed | disagreed | missing | noResult
deriving DecidableEq, Repr

/-- The dissent list from item `i` on: accepted items on which the entry gave a value outside the agreeing set (R92). -/
def dissentFrom (e : QueueEntry) : Nat → List ItemVote → List Nat
  | _, [] => []
  | i, v :: rest =>
    match v.decided, e.valueAt i with
    | some d, some x => if v.item.agrees d x then dissentFrom e (i + 1) rest else i :: dissentFrom e (i + 1) rest
    | _, _ => dissentFrom e (i + 1) rest

/-- The entry abstains on an accepted item, from item `i` on (R93). -/
def abstainsFrom (e : QueueEntry) : Nat → List ItemVote → Bool
  | _, [] => false
  | i, v :: rest => (v.decided.isSome && (e.valueAt i).isNone) || abstainsFrom e (i + 1) rest

/-- The dissent list of a channel; empty when it is marked missing (R92). -/
def dissentList (votes : List ItemVote) : Option QueueEntry → List Nat
  | none => []
  | some e => dissentFrom e 0 votes

/-- The standing class, by the first line of R93's table that applies. -/
def standingClass (votes : List ItemVote) (entry : Option QueueEntry) : StandingClass :=
  match entry with
  | none => .missing
  | some e =>
    if dissentFrom e 0 votes ≠ [] then .dissent
    else if abstainsFrom e 0 votes then .abstain
    else if roundOutcome votes ≠ .void then .agreed
    else .neutral

/-- The probation result (R94). -/
def probationResult (outcome : RoundOutcome) (cls : StandingClass) : ProbationResult :=
  if outcome = .void then .noResult
  else
    match cls with
    | .missing => .missing
    | .dissent | .abstain => .disagreed
    | .agreed | .neutral => .agreed

/-- The own status of a probationer (R94). -/
def shadowStatus (outcome : RoundOutcome) (cls : StandingClass) : OwnStatus :=
  match cls with
  | .missing => .missing
  | .dissent | .abstain => if outcome = .void then .shadowAgreed else .shadowDissent
  | .agreed | .neutral => .shadowAgreed

/-- The result for one channel (R95, R96, R97). -/
structure ChannelResult where
  ownStatus : OwnStatus
  dissent : List Nat
  standing : Option StandingClass
  probation : Option ProbationResult
deriving DecidableEq, Repr

/-- The result of a channel's part; none for a channel that receives no VERDICT (R95, R96). -/
def channelResult (votes : List ItemVote) (part : Part) : Option ChannelResult :=
  match part with
  | .counted entry =>
    some
      { ownStatus := if entry.isSome then .counted else .missing
        dissent := dissentList votes entry
        standing := some (standingClass votes entry)
        probation := none }
  | .compared entry =>
    let cls := standingClass votes entry
    let outcome := roundOutcome votes
    some
      { ownStatus := shadowStatus outcome cls
        dissent := dissentList votes entry
        standing := some cls
        probation := some (probationResult outcome cls) }
  | .onlooker => some ⟨.notVoter, [], none, none⟩
  | .outside => none

/-- The round result (R97). -/
structure RoundResult where
  cycle : Cycle
  epoch : Word32
  cause : CloseCause
  votes : List ItemVote
  items : List ItemResult
  outcome : RoundOutcome
  channels : PerChannel (Option ChannelResult)
  probationRounds : Nat
deriving DecidableEq, Repr

/-- The evaluation of a close under the configuration in force for its cycle (R82). -/
def evaluate (cfg : Configuration) (c : Cycle) (cause : CloseCause) (parts : PerChannel Part)
    (table : List (Option ItemState)) : RoundResult :=
  let votes := votesFrom cfg.record.itemQuorum parts 0 cfg.schema
  { cycle := c
    epoch := cfg.epoch
    cause
    votes
    items := resultsFrom c votes table
    outcome := roundOutcome votes
    channels := PerChannel.build fun ch => channelResult votes (parts.get ch)
    probationRounds := cfg.record.probationRounds }

end Sys2Proof.Machine
end

