-- ==== Sys2Proof/Machine/Closing.lean ====
section
/-!
DEFINITION. The close of a round, whole: the Round Window, the Configuration Store, the Standing Monitor, the Output
Port, the History Buffer and the Membership Table each take the round result (R76, R97, R98).
-/

namespace Sys2Proof.Machine

/-! ## Configuration Store (R11, R13 to R15) -/

/-- The item state table as a close of round `c` reads it: empty for a round older than the schema boundary, and
without the entries older than the activation cycle of a SCHEMA change that still waits (R15, R88). -/
def Store.tableForClose (st : Store) (c : Cycle) : List (Option ItemState) :=
  match st.schemaBoundary with
  | some b => if older c b then st.items.map fun _ => none else st.items
  | none =>
    match st.awaiting with
    | some w =>
      if w.kind = .schema && sameOrNewer c w.config.firstCycle then
        st.items.map fun
          | some e => if older e.acceptanceCycle w.config.firstCycle then none else some e
          | none => none
      else st.items
    | none => st.items

/-- An entry that a close does not overwrite: its saturation mark is set once its distance reaches 255 (R14). -/
def ItemState.saturate (e : ItemState) (c : Cycle) : ItemState :=
  if 255 ≤ e.distance c then { e with saturated := true } else e

/-- The item state table after the close of round `c` with these votes (R13, R14). -/
def writeItems (c : Cycle) : List ItemVote → List (Option ItemState) → List (Option ItemState)
  | _, [] => []
  | [], e :: rest => e.map (·.saturate c) :: writeItems c [] rest
  | v :: votes, e :: rest =>
    (match v.decided with
      | some d => some ⟨d, c, false⟩
      | none => e.map (·.saturate c)) :: writeItems c votes rest

/-- The schema boundary is cleared by the close of a round that is not older than it, before the table is read
(R15). -/
def Store.passBoundary (st : Store) (c : Cycle) : Store :=
  match st.schemaBoundary with
  | some b => if older c b then st else { st with schemaBoundary := none }
  | none => st

/-- The accepted values written; a close older than the boundary leaves the table untouched (R13, R15, R91). -/
def Store.writeClose (st : Store) (c : Cycle) (votes : List ItemVote) : Store :=
  if st.schemaBoundary.isSome then st else { st with items := writeItems c votes st.items }

/-- The retained configurations that serve a present round (R11). -/
def Store.discardRetained (st : Store) (rounds : List Round) : Store :=
  match st.installed with
  | some cfg =>
    { st with
      retained := st.retained.filter fun r =>
        rounds.any fun x => older x.cycle cfg.firstCycle && retainedFor x.cycle st.retained == some r }
  | none => st

/-! ## Standing Monitor (R101, R103) -/

/-- The weight and the counter of a standing class (R101, R103). -/
def StandingClass.weight : StandingClass → Option (Int × CounterName)
  | .missing => some (8, .missingRounds)
  | .dissent => some (6, .dissentRounds)
  | .abstain => some (1, .abstainRounds)
  | .agreed => some (-1, .agreeRounds)
  | .neutral => none

/-- The weight of one channel's standing class, gathering the channels that are claimed (R103). -/
def weighClass (res : PerChannel (Option ChannelResult)) (acc : State × List Channel) (ch : Channel) :
    State × List Channel :=
  match ((res.get ch).bind (·.standing)).bind (·.weight) with
  | some (w, name) =>
    let (s, claimed) := (acc.1.count ch name).weigh ch w
    (s, if claimed then acc.2 ++ [ch] else acc.2)
  | none => acc

/-- All the weights of a close, and the channels they claim for exclusion (R98, R103). -/
def State.weighClose (s : State) (res : PerChannel (Option ChannelResult)) : State × List Channel :=
  Channel.all.foldl (weighClass res) (s, [])

/-! ## Output Port and History Buffer (R115 to R126, R168) -/

/-- An item as the DECISION carries it: its safe value while the output is SAFE (R121). -/
def shownItem (out : OutputState) (v : ItemVote) (r : ItemResult) : ItemResult :=
  if out = .safe then { r with value := v.item.safeValue } else r

/-- The output state with its runs moved on a round outcome, under the installed thresholds, SAFE_N following, and
OUTPUT_STATE broadcast at a change (R114, R115, R117). -/
def State.moveOutput (s : State) (outcome : RoundOutcome) : State :=
  match s.store.installed with
  | some cfg =>
    let o := OutputRuns.after ⟨s.output.state, s.output.voidRun, s.output.goodRun⟩ outcome
      cfg.record.safeAfter cfg.record.recoverAfter
    let moved : State := { s with output := { s.output with
      state := o.state, voidRun := o.voidRun, goodRun := o.goodRun, safeN := o.state.safeNLevel } }
    if o.state = s.output.state then moved else moved.broadcast (.outputState o.state)
  | none => s

/-- A DECISION given to the Output Port: straight to transmission when the link is free and nothing waits, and
otherwise to the end of the queue, where a third waiting frame discards the oldest (R122, R123). -/
def State.queueDecision (s : State) (d : Decision) : State :=
  match s.output.link, s.output.queue with
  | .fill, [] => { s with output := { s.output with link := .frame d } }
  | _, q =>
    if q.length < 2 then { s with output := { s.output with queue := q ++ [d] } }
    else
      { s with
        output := { s.output with queue := q.tail ++ [d] }
        part := { s.part with outputOverruns := saturate16 s.part.outputOverruns } }

/-- A VERDICT offered to a port: an UP port queues it, dropping and counting the oldest of four (R125, R155, R158). -/
def State.offerVerdict (s : State) (ch : Channel) (v : Verdict) : State :=
  if s.isUp ch then
    let q := (s.ports.get ch).verdicts
    if q.length < 4 then s.modPort ch fun p => { p with verdicts := q ++ [v] }
    else (s.modPort ch fun p => { p with verdicts := q.tail ++ [v] }).count ch .verdictsDropped
  else s

/-- The VERDICT of one channel, with its score after the close's weights (R124). -/
def State.sendVerdict (res : RoundResult) (items : List ItemResult) (s : State) (ch : Channel) : State :=
  match res.channels.get ch with
  | some r =>
    s.offerVerdict ch
      { cycle := res.cycle, epoch := res.epoch, outcome := res.outcome, cause := res.cause
        outputState := s.output.state, items, ownStatus := r.ownStatus, dissent := r.dissent
        score := (s.standing.get ch).score }
  | none => s

/-- A record at the front of the History Buffer, the oldest of more than 16 removed (R168). -/
def State.writeHistory (s : State) (r : DecisionRecord) : State :=
  { s with history := (r :: s.history).take 16 }

/-- What a close produces after its transition: the DECISION, the history record and the VERDICTs (R126). -/
def State.produce (s : State) (res : RoundResult) : State :=
  let out := s.output.state
  let items := List.zipWith (shownItem out) res.votes res.items
  let s := s.queueDecision ⟨res.cycle, res.epoch, out, items⟩
  let s := s.writeHistory ⟨res.cycle, res.epoch, res.cause, res.outcome, out, items⟩
  Channel.all.foldl (State.sendVerdict res items) s

/-! ## Membership Table (R44, R45, R98) -/

/-- The probation run after a probation result (R44). -/
def runAfter (run : Nat) : ProbationResult → Nat
  | .agreed => min (run + 1) 255
  | .disagreed => 0
  | .missing => 0
  | .noResult => run

/-- The probation update of a channel still PROBATION, for a round of its admission cycle or newer, and the promotion
that it completes (R44, R45). -/
def State.updateProbation (res : RoundResult) (s : State) (ch : Channel) : State :=
  let m := s.members.get ch
  match (res.channels.get ch).bind (·.probation), m.admissionCycle with
  | some result, some admission =>
    if m.state = .probation && sameOrNewer res.cycle admission && result != .noResult then
      let run := runAfter m.probationRun result
      if res.probationRounds ≤ run then
        (s.modMember ch fun m => { m with state := .voting, probationRun := 0 }).send ch .promoted
      else s.modMember ch fun m => { m with probationRun := run }
    else s
  | _, _ => s

/-- The membership effects of a close: the exclusions claimed, the probation results, then the completeness check and
the group state with the VOTING set they leave (R98). DESIGN CHOICE (log entry 16): several channels are excluded in
letter order, which decides whether CONCURRED is broadcast before the CHANGE_VOIDED of the same entry (R50, R141). -/
def State.closeMembership (s : State) (res : RoundResult) (claims : List Channel) : State :=
  let excluded := claims.foldl (fun s ch => s.excludeChannel .score ch) s
  State.settleMembership s (Channel.all.foldl (State.updateProbation res) excluded)

/-! ## Round Window (R75) -/

/-- The entries for a cycle removed from every queue, and its round from the window (R75). -/
def State.removeRound (s : State) (c : Cycle) : State :=
  { s with
    window := { s.window with
      queues := PerChannel.build fun ch => (s.window.queues.get ch).filter fun e => e.cycle != c
      rounds := s.window.rounds.filter fun r => r.cycle != c } }

/-- A close counted (R108). -/
def State.countDecision (s : State) : State :=
  { s with part := { s.part with decisions := saturate32 s.part.decisions } }

/-- The close of a round with its close cause, as one event (R75, R76, R97, R98). A configuration is in force for every
present round (R8, R11); a round without one would only leave the window (DESIGN CHOICE: log entry 13). -/
def State.closeRound (s : State) (r : Round) (cause : CloseCause) : State :=
  match s.store.inForce r.cycle with
  | some cfg =>
    let parts := s.partsAtClose r
    let s := s.removeRound r.cycle
    let store := s.store.passBoundary r.cycle
    let res := evaluate cfg r.cycle cause parts (store.tableForClose r.cycle)
    let s := { s with store := store.writeClose r.cycle res.votes }
    let (s, claims) := s.countDecision.weighClose res.channels
    let s := (s.moveOutput res.outcome).produce res
    let s := s.closeMembership res claims
    { s with store := s.store.discardRetained s.window.rounds }
  | none => s.removeRound r.cycle

end Sys2Proof.Machine
end

