-- ==== Sys2Proof/Machine/Marks.lean ====
section
/-!
DEFINITION. The mark: the Cycle Timer's own step and the reaction of each block that takes it (R22, R24), and the
expiries of deadlines and founding windows.
-/

namespace Sys2Proof.Machine

/-- The blocks a mark is offered to (R24). -/
def allTakers : List MarkTaker :=
  [.roundWindow, .port .a, .port .b, .port .c, .port .d, .membership, .changeTable, .store]

/-- The Cycle Timer takes the mark (R22): it opens cycle N under the configuration in force for it, schedules the next
mark, and offers the mark with the round's deadline. It does nothing while STOPPED. -/
def State.openCycle (s : State) : State :=
  match s.timer.running with
  | none => s
  | some t =>
    match s.store.inForce t.nextCycle with
    | none => s
    | some cfg =>
      let s := s.reachTick t.nextMark
      let deadline := t.nextMark + BitVec.ofNat 32 cfg.record.deadlineOffset
      { s with
        timer := { s.timer with
          running := some
            { nextCycle := t.nextCycle + 1
              nextMark := t.nextMark + BitVec.ofNat 32 cfg.record.period
              period := cfg.record.period
              deadlineOffset := cfg.record.deadlineOffset }
          offers := s.timer.offers ++ allTakers.map fun b => ⟨b, t.nextCycle, deadline, t.nextMark⟩ }
        store := { s.store with retainedNextCycle := some (t.nextCycle + 1) } }

/-! ## Round Window (R68, R69) -/

/-- The oldest round closed when four are present at a mark: FORCED and counted when it is OPEN, with its own seal
cause when it is SEALED (R69). -/
def State.capacityClose (s : State) : State :=
  match s.window.rounds with
  | r :: rest =>
    if 3 ≤ rest.length then
      match r.sealedBy with
      | none =>
        ({ s with part := { s.part with forcedCloses := saturate16 s.part.forcedCloses } }).closeRound r .forced
      | some sl => s.closeRound r sl.cause.closeCause
    else s
  | [] => s

/-- The channels whose queues hold an entry for a cycle (R61). -/
def State.arrivalFor (s : State) (c : Cycle) : ChannelSet :=
  PerChannel.build fun ch => (entryFor (s.window.queues.get ch) c).isSome

/-- The Round Window takes the mark for cycle `c` (R68). -/
def State.windowTakesMark (s : State) (c : Cycle) (deadline : Tick) : State :=
  if s.window.nextRound.isNone then s
  else
    let s := s.capacityClose
    let round : Round := ⟨c, deadline, s.arrivalFor c, none⟩
    let opened : State :=
      { s with window := { s.window with rounds := s.window.rounds ++ [round], nextRound := some (c + 1) } }
    opened.checkComplete fun r => r.cycle == c

/-! ## Channel ports (R25, R156) -/

/-- A MARK placed in a port's mark slot, an unsent one being replaced and counted (R156). -/
def State.placeMark (s : State) (ch : Channel) (f : MarkFrame) : State :=
  let s := if (s.ports.get ch).markSlot.isSome then s.count ch .marksSkipped else s
  s.modPort ch fun p => { p with markSlot := some f }

/-- A port takes the mark: an UP port builds a MARK, and none is built while the group is EMPTY (R25). -/
def State.portTakesMark (s : State) (ch : Channel) (c : Cycle) : State :=
  if s.isUp ch && !s.isEmpty then
    s.placeMark ch ⟨c, s.store.epochInForce c, s.groupState, s.output.state⟩
  else s

/-! ## Membership Table (R42, R47) -/

/-- A holdoff above 0 reduced by one (R47). -/
def State.countHoldoff (s : State) (ch : Channel) : State :=
  s.modMember ch fun m => { m with holdoff := m.holdoff - 1 }

/-- The step of one CANDIDATE, under the group state read at the start of the step (R42). -/
def State.stepCandidate (group : GroupState) (s : State) (ch : Channel) : State :=
  if s.channelState ch = .candidate then
    match group with
    | .active => s.modMember ch fun m => { m with state := .probation, probationRun := 0 }
    | .stalled => (s.modMember ch fun m => { m with state := .voting }).send ch .promoted
    | .empty => s
  else s

/-- The candidate step (R42); when it moves no channel, nothing else follows. -/
def State.candidateStep (s : State) : State :=
  if Channel.all.any fun ch => s.channelState ch == .candidate then
    State.settleMembership s (Channel.all.foldl (State.stepCandidate s.groupState) s)
  else s

/-- The Membership Table takes the mark (R42, R47). -/
def State.membersTakeMark (s : State) : State := (Channel.all.foldl State.countHoldoff s).candidateStep

/-! ## Change Table (R142) -/

/-- The Change Table takes the mark for cycle `c`: PENDING entries whose expiry is `c` are voided (R142). -/
def State.changesTakeMark (s : State) (c : Cycle) : State :=
  (s.changes.entries.filter fun e => e.isPending && e.expiry == some c).foldl
    (fun s e => s.voidEntry 0 .expired e.ticket) s

/-! ## Configuration Store (R10, R54, R55, R105) -/

/-- What a GROUP activation does to one channel: a voter that the new member set leaves out becomes OBSERVER (R54). -/
def State.demote (members : ChannelSet) (s : State) (ch : Channel) : State :=
  let was := s.channelState ch
  if was.isVoter && !(members.get ch) then
    (s.modMember ch fun m => { m with state := .observer, probationRun := 0 }).leaveVoters ch was
  else s

/-- The channels of the new member set whose score stands at or above the new exclude_level (R105). -/
def State.claimedByLevel (s : State) (r : GroupRecord) : List Channel :=
  Channel.all.filter fun ch =>
    (s.channelState ch).isScored && r.members.get ch && r.excludeLevel ≤ (s.standing.get ch).score

/-- The effects of a GROUP activation on the members (R54, R105). -/
def State.activateGroup (s : State) (r : GroupRecord) : State :=
  let demoted := Channel.all.foldl (State.demote r.members) s
  let claims := demoted.claimedByLevel r
  State.settleMembership s (claims.foldl (fun s ch => s.excludeChannel .score ch) demoted)

/-- The effects of a SCHEMA activation at cycle `a` on the item state table (R10, R15). -/
def Store.activateSchema (st : Store) (a : Cycle) : Store :=
  { st with
    items := st.items.map fun
      | some e => if older e.acceptanceCycle a then none else some e
      | none => none
    schemaBoundary := some a }

/-- The effects of a PARDON activation: holdoff and score 0 (R55, R105). -/
def State.activatePardon (s : State) (ch : Channel) : State :=
  (s.modMember ch fun m => { m with holdoff := 0 }).modStanding ch fun st => { st with score := 0 }

/-- The awaiting configuration becomes the installed one; the outgoing one is retained when a present round is older
than the activation cycle (R10, steps 1 and 2). -/
def State.install (s : State) (w : Awaiting) : State :=
  let needed := s.window.rounds.any fun r => older r.cycle w.config.firstCycle
  { s with
    store := { s.store with
      installed := some w.config
      awaiting := none
      retained := if needed then s.store.retained ++ s.store.installed.toList else s.store.retained } }

/-- The COMMITTED entry leaves the Change Table (R139). -/
def State.dropCommitted (s : State) : State :=
  { s with changes := { s.changes with entries := s.changes.entries.filter fun e => e.isPending } }

/-- The effects that the kind of an installed change has of its own (R10, step 3); the group state is recomputed at a
GROUP and a SCHEMA activation (R51) and not at a PARDON activation (R55). -/
def State.activateKind (s : State) (w : Awaiting) : State :=
  match w.kind with
  | .group => s.activateGroup w.config.record
  | .schema => ({ s with store := s.store.activateSchema w.config.firstCycle }).recomputeGroup
  | .pardon ch => s.activatePardon ch

/-- The activation of the awaiting change (R10, R139). -/
def State.activate (s : State) (w : Awaiting) : State :=
  (((s.install w).dropCommitted).activateKind w).broadcast (.activated w.config.epoch w.config.firstCycle)

/-- The Configuration Store takes the mark for cycle `c` (R10). -/
def State.storeTakesMark (s : State) (c : Cycle) : State :=
  match s.store.awaiting with
  | some w => if sameOrNewer c w.config.firstCycle then s.activate w else s
  | none => s

/-! ## Taking an offered mark (R24) -/

/-- A block's reaction to the mark for cycle `c` (R24). -/
def State.react (s : State) (o : MarkOffer) : State :=
  match o.taker with
  | .roundWindow => s.windowTakesMark o.cycle o.deadline
  | .port ch => s.portTakesMark ch o.cycle
  | .membership => s.membersTakeMark
  | .changeTable => s.changesTakeMark o.cycle
  | .store => s.storeTakesMark o.cycle

/-- The first offer to a block taken out of a list of offers. -/
def takeOffer (b : MarkTaker) : List MarkOffer → Option (MarkOffer × List MarkOffer)
  | [] => none
  | o :: rest =>
    if o.taker = b then some (o, rest)
    else (takeOffer b rest).map fun found => (found.1, o :: found.2)

/-- A block takes the oldest mark offered to it, as an event of its own; a block with no mark on its way does
nothing (R24). -/
def State.takeMark (s : State) (b : MarkTaker) : State :=
  match takeOffer b s.timer.offers with
  | some (o, rest) => (State.react { s with timer := { s.timer with offers := rest } } o).settleNotices
  | none => s

/-- Every block takes the mark that it has still to take. The next round number lags N by one mark at the most (R60), so a
mark finds none of the one before it still to be taken. DEDUCED: log entry 7. They take it in the order of the offers,
that of `allTakers`, where R24 fixes none. DESIGN CHOICE: log entry 19. -/
def State.takeOwed (s : State) : State := (s.timer.offers.map (·.taker)).foldl State.takeMark s

/-! ## Expiries (R28, R72, R143) -/

/-- A deadline reached: an OPEN round seals with cause DEADLINE (R72). -/
def State.expireDeadline (s : State) (c : Cycle) : State :=
  match s.window.rounds.find? fun r => r.cycle == c with
  | none => s
  | some r =>
    let s := s.reachTick r.deadline
    { s with
      window := { s.window with
        rounds := s.window.rounds.map fun r =>
          if r.cycle == c && r.isOpen then { r with sealedBy := some ⟨.deadline, s.votingSet⟩ } else r } }

/-- A founding expiry raised to the Change Table: a PENDING FOUND entry with the ticket is voided (R143). -/
def State.expireFounding (s : State) (ticket : Byte) : State :=
  if s.changes.entries.any fun e => e.ticket == ticket && e.isPending && e.isFound then
    s.voidEntry 0 .expired ticket
  else s

/-- A founding expiry reached: the timer removes it and raises it (R28). -/
def State.reachFoundingExpiry (s : State) (ticket : Byte) : State :=
  match s.timer.foundingExpiries.find? fun e => e.ticket == ticket with
  | none => s
  | some e => ((s.reachTick e.tick).dropFoundingExpiry ticket).expireFounding ticket

end Sys2Proof.Machine
end

