-- ==== Sys2Proof/Machine/Requests.lean ====
section
/-!
DEFINITION. What the owning blocks do with the requests of the controllers: ANNOUNCE and LEAVE (Membership), PROPOSAL
(Proposal Intake), CHANGE, CONCUR and RETRACT (Quorum Changes), with the three kinds of commit.
-/

namespace Sys2Proof.Machine

/-! ## ANNOUNCE and LEAVE (R38, R39, R49) -/

/-- The first check of R38, from check 1 on, that an ANNOUNCE fails. -/
def State.announceRefusal (s : State) (ch : Channel) (a : Announcement) : Option RefusalReason :=
  let m := s.members.get ch
  match s.store.installed with
  | none => some .noGroup
  | some cfg =>
    if a.letter ≠ ch then some .wrongPort
    else if m.state.isVoter || m.state == .observer then some .alreadyJoined
    else if 0 < m.holdoff then some .holdoff
    else if a.epoch ≠ s.store.currentEpoch then some .staleEpoch
    else if a.digest ≠ s.store.currentDigest then some .digestMismatch
    else if a.role = .voter && !(cfg.record.members.get ch) then some .notMember
    else none

/-- The state that an admission gives (R39). -/
def Role.admittedState : Role → ChannelState
  | .voter => .candidate
  | .observer => .observer

/-- An admission (R39). DESIGN CHOICE (log entry 17): between the Cycle Timer's taking of mark c and the Membership Table's,
the admission cycle is N = c + 1, as step 3 has it, and the table still steps the channel at mark c (R42). -/
def State.enrol (s : State) (ch : Channel) (a : Announcement) : State :=
  let n := s.timer.running.map (·.nextCycle)
  let s := s.modMember ch fun m =>
    { m with state := a.role.admittedState, announcement := some a, admissionCycle := n, probationRun := 0 }
  ((s.modStanding ch fun st => { st with score := 0 }).count ch .admissions).send ch
    (.admitted a.role.admittedState)

/-- The Membership Table takes an ANNOUNCE (R38). -/
def State.takeAnnounce (s : State) (ch : Channel) (payload : List Byte) : State :=
  match decodeAnnounce payload with
  | none => s.refuse ch announceKind .badField
  | some a =>
    match s.announceRefusal ch a with
    | some reason => s.refuse ch announceKind reason
    | none => s.enrol ch a

/-- The Membership Table takes a LEAVE (R49). -/
def State.takeLeave (s : State) (ch : Channel) : State :=
  let was := s.channelState ch
  if s.isEmpty then s.refuse ch leaveKind .noGroup
  else if was.isVoter || was == .observer then
    let left := s.modMember ch fun m => { m with state := .linked, probationRun := 0 }
    if was.isVoter then State.settleMembership s (left.leaveVoters ch was) else left
  else s.refuse ch leaveKind .wrongState

/-! ## PROPOSAL (R63 to R66, R173) -/

/-- The check of a PROPOSAL against the configuration in force for its cycle (R64); an item list that is not a whole
number of items does not match its item count (R173). -/
def ProposalFields.fits (f : ProposalFields) (cfg : Configuration) : Bool :=
  f.epoch == cfg.epoch && f.itemCount == cfg.schema.length && f.items.length == f.itemCount && !f.oddLength

/-- A PROPOSAL queued; its channel joins the arrival set of its round when that is present, and the completeness check
runs for that round (R61, R65). -/
def State.queueProposal (s : State) (ch : Channel) (f : ProposalFields) : State :=
  let entry : QueueEntry := ⟨f.cycle, f.epoch, f.itemCount, f.items⟩
  let queued : State :=
    { s with
      window := { s.window with
        queues := s.window.queues.set ch (s.window.queues.get ch ++ [entry])
        rounds := s.window.rounds.map fun r =>
          if r.cycle == f.cycle then { r with arrival := r.arrival.set ch true } else r } }
  (queued.checkComplete fun r => r.cycle == f.cycle).count ch .proposalsTaken

/-- A PROPOSAL of 13 bytes or more from a voter channel, from check 2 of R63 on. -/
def State.sortProposal (s : State) (ch : Channel) (next : Cycle) (f : ProposalFields) : State :=
  let isSealed := s.window.rounds.any fun r => r.cycle == f.cycle && !r.isOpen
  let queue := s.window.queues.get ch
  match s.window.spanClass next f.cycle with
  | .behind => (s.count ch .late).weighAndExclude ch 4
  | .newer => s.count ch .early
  | .inside =>
    if isSealed then (s.count ch .late).weighAndExclude ch 4
    else if !((s.store.inForce f.cycle).any f.fits) then (s.count ch .epochWrong).weighAndExclude ch 8
    else if queue.any fun e => e.cycle == f.cycle then s.count ch .duplicate
    else if 4 ≤ queue.length then s.count ch .queueFull
    else s.queueProposal ch f

/-- The Round Window takes a PROPOSAL (R63, R173). A configured part always holds a next round number (R60); without
one there is no span, as while the group is EMPTY. -/
def State.takeProposal (s : State) (ch : Channel) (payload : List Byte) : State :=
  if s.isEmpty || !(s.channelState ch).isVoter then s.count ch .notVoter
  else
    match decodeProposal payload, s.window.nextRound with
    | none, _ => (s.count ch .epochWrong).weighAndExclude ch 8
    | some _, none => s.count ch .notVoter
    | some f, some next => s.sortProposal ch next f

/-! ## CHANGE (R129 to R132) -/

/-- The fields of a CHANGE of 9 bytes or more with a defined kind (R173). -/
structure ChangeFields where
  kind : ChangeKind
  baseEpoch : Word32
  digest : Word32
  content : List Byte
deriving DecidableEq, Repr

/-- A CHANGE's fields; absent when it is shorter than 9 bytes or its kind is undefined (R129 check 0). -/
def decodeChange (p : List Byte) : Option ChangeFields :=
  if p.length < 9 then none
  else (changeKindOfCode (p.getD 0 0)).map fun kind => ⟨kind, field32 p 1, field32 p 5, p.drop 9⟩

/-- The first of the checks 1 to 4 of R129 that a CHANGE from channel `ch` fails. -/
def State.changeRefusal (s : State) (ch : Channel) (f : ChangeFields) : Option RefusalReason :=
  if s.isEmpty && f.kind != .found then some .noGroup
  else if !s.isEmpty && f.kind == .found then some .wrongState
  else if !s.isEmpty && s.channelState ch != .voting then some .notVoter
  else if s.isEmpty && s.channelState ch != .linked then some .wrongState
  else if f.baseEpoch ≠ s.store.currentEpoch then some .staleEpoch
  else if (s.changes.entries.any fun e => !e.isPending) || s.store.awaiting.isSome || 2 ≤ s.changes.entries.length then
    some .busy
  else none

/-- The installed member set; empty when no configuration is installed. -/
def State.installedMembers (s : State) : ChannelSet :=
  (s.store.installed.map (·.record.members)).getD ChannelSet.empty

/-- The payload of a CHANGE, tested as checks 5 and 6 of R129 direct: the content, or the reason of its refusal
(R130). -/
def State.changePayload (s : State) (ch : Channel) (f : ChangeFields) : Except RefusalReason Payload :=
  match decodePayload f.kind s.installedMembers f.content with
  | none => .error .badField
  | some p =>
    if f.digest ≠ crc32 f.content then .error .badField
    else
      match p with
      | .found r _ => if r.members.get ch then .ok p else .error .notMember
      | .dissolve => .ok p
      | .group _ | .schema _ | .pardon _ =>
        if s.store.currentEpoch = 0xFFFFFFFF#32 then .error .epochLimit else .ok p

/-- The ticket after `t` in rolling order (R132). -/
def rollTicket (t : Byte) : Byte := if t = 255#8 then 1#8 else t + 1#8

/-- The next ticket, passing over one in use (R132). -/
def ChangeTable.nextTicket (t : ChangeTable) : Byte :=
  let n := rollTicket t.ticketCounter
  if t.entries.any fun e => e.ticket == n then rollTicket n else n

/-- The founding window in ticks (R28). -/
def foundingWindow : Tick := 2000000#32

/-- An entry created (R131). -/
def State.createEntry (s : State) (ch : Channel) (f : ChangeFields) (p : Payload) : State :=
  let ticket := s.changes.nextTicket
  let window := (s.store.current.map (·.record.changeWindow)).getD 0
  let expiry := (s.timer.running.map (·.nextCycle)).map (· + BitVec.ofNat 32 window)
  let isFound := p.foundingMembers.isSome
  let entry : ChangeEntry :=
    { ticket, proposer := ch, baseEpoch := f.baseEpoch, payload := p, payloadDigest := f.digest
      concurrence := ChannelSet.only ch, expiry := if isFound then none else expiry, state := .pending }
  let s : State := { s with changes := ⟨s.changes.entries ++ [entry], ticket⟩ }
  let s : State :=
    if isFound then
      { s with timer := { s.timer with
          foundingExpiries := s.timer.foundingExpiries ++ [⟨ticket, s.timer.tickCount + foundingWindow⟩] } }
    else s
  s.broadcast (.changePending ticket p.kind ch f.digest entry.expiry)

/-- The Change Table takes a CHANGE (R129). -/
def State.takeChange (s : State) (ch : Channel) (payload : List Byte) : State :=
  match decodeChange payload with
  | none => s.refuse ch changeKindByte .badField
  | some f =>
    match s.changeRefusal ch f with
    | some reason => s.refuse ch changeKindByte reason
    | none =>
      match s.changePayload ch f with
      | .error reason => s.refuse ch changeKindByte reason
      | .ok p => s.createEntry ch f p

/-! ## Commits (R135 to R138) -/

/-- The other entry voided at a commit (R135, R137, R138). -/
def State.voidOthers (s : State) (ticket : Byte) (reason : VoidReason) : State :=
  (s.changes.entries.filter fun e => e.ticket != ticket).foldl (fun s e => s.voidEntry 1 reason e.ticket) s

/-- The configuration that a GROUP, SCHEMA or PARDON commit produces, with its kind; none for the other kinds (R5, R6,
R9, R128). -/
def Payload.produces (p : Payload) (cfg : Configuration) (epoch : Word32) (activation : Cycle) : Option Awaiting :=
  match p with
  | .group r =>
    some ⟨{ cfg with record := r, epoch, digest := configurationDigest r cfg.schema, firstCycle := activation }, .group⟩
  | .schema items =>
    some
      ⟨{ cfg with schema := items, epoch, digest := configurationDigest cfg.record items, firstCycle := activation },
        .schema⟩
  | .pardon ch =>
    some
      ⟨{ cfg with epoch, digest := configurationDigest cfg.record cfg.schema, firstCycle := activation }, .pardon ch⟩
  | .found _ _ | .dissolve => none

/-- The commit of a GROUP, SCHEMA or PARDON entry, activating at N + 1 (R135, R136). -/
def State.commitChange (s : State) (e : ChangeEntry) : State :=
  match s.store.installed, s.timer.running with
  | some cfg, some t =>
    let activation := t.nextCycle + 1
    match e.payload.produces cfg (s.store.currentEpoch + 1) activation with
    | some w =>
      let s : State := { s with store := { s.store with awaiting := some w } }
      let s := s.modEntry e.ticket fun e => { e with state := .committed activation, expiry := none }
      let s := s.voidOthers e.ticket .superseded
      (s.broadcastAt 2 (.changeCommitted e.ticket w.config.epoch w.config.digest (some activation))).countCommit
    | none => s
  | _, _ => s

/-- The commit of a FOUND entry: the group is created in this event (R9, R27, R52, R81, R118, R137). DESIGN CHOICE (log
entry 18): a superseded entry is counted in changes_voided (R108, R137), which R112 does not name for a FOUND. -/
def State.commitFound (s : State) (e : ChangeEntry) (r : GroupRecord) (items : List SchemaItem) : State :=
  let s := (s.voidOthers e.ticket .superseded).removeEntry e.ticket
  let digest := configurationDigest r items
  let s : State :=
    { s with
      store := { s.store with
        installed := some ⟨r, items, 1, digest, 0⟩
        awaiting := none
        retained := []
        items := List.replicate 32 none
        schemaBoundary := none
        retainedNextCycle := some 0 }
      timer := { s.timer with
        running := some ⟨0, s.timer.tickCount + BitVec.ofNat 32 r.period, r.period, r.deadlineOffset⟩
        foundingExpiries := [] }
      window := { Window.reset with nextRound := some 0 }
      groupState := .stalled
      output := { s.output with state := .safe, voidRun := 0, goodRun := 0, safeN := .low } }
  ((s.broadcastAt 2 (.changeCommitted e.ticket 1 digest (some 0))).broadcastAt 3 (.groupState .stalled)).broadcastAt 3
    (.outputState .safe) |>.countCommit

/-- A channel's membership entry after a DISSOLVE commit (R56). -/
def Member.dissolved (m : Member) : Member :=
  { state := if m.state = .detached then .detached else .linked
    announcement := none
    holdoff := 0
    probationRun := 0
    admissionCycle := none }

/-- A counter increased once for each frame discarded. -/
def saturateBy (n k : Nat) : Nat := min (n + k) 65535

/-- The commit of a DISSOLVE entry: the group ends in this event (R19, R30, R56, R79, R112, R119, R138, R169). DESIGN
CHOICE (log entry 18): the discarded frames are counted in output_overruns (R108, R119), which R112 does not name. -/
def State.commitDissolve (s : State) (e : ChangeEntry) : State :=
  let s := (s.voidOthers e.ticket .dissolved).removeEntry e.ticket
  let s : State :=
    { s with
      store := { Store.reset with restartCause := .dissolve }
      timer := { s.timer with running := none, foundingExpiries := [], offers := [] }
      window := Window.reset
      members := PerChannel.build fun ch => (s.members.get ch).dissolved
      groupState := .empty
      standing := PerChannel.build fun ch => { s.standing.get ch with score := 0 }
      part := { s.part with outputOverruns := saturateBy s.part.outputOverruns s.output.queue.length }
      output := { s.output with state := .inactive, voidRun := 0, goodRun := 0, queue := [], safeN := .low }
      history := [] }
  ((s.broadcastAt 2 (.changeCommitted e.ticket 0 0 none)).broadcastAt 3 (.groupState .empty)).broadcastAt 3
    (.outputState .inactive) |>.countCommit

/-- The commit of an entry, by its kind (R134). -/
def State.commit (s : State) (e : ChangeEntry) : State :=
  match e.payload with
  | .found r items => s.commitFound e r items
  | .dissolve => s.commitDissolve e
  | .group _ | .schema _ | .pardon _ => s.commitChange e

/-! ## CONCUR and RETRACT (R133, R140) -/

/-- The PENDING entry that a ticket names; ticket 0 names none (R133, R140). -/
def ChangeTable.named (t : ChangeTable) (ticket : Byte) : Option ChangeEntry :=
  if ticket = 0 then none else t.entries.find? fun e => e.ticket == ticket && e.isPending

/-- A channel may concur with an entry (R133, check 2). -/
def State.mayConcur (s : State) (ch : Channel) (e : ChangeEntry) : Bool :=
  match e.payload.foundingMembers with
  | some members => s.channelState ch == .linked && members.get ch
  | none => s.channelState ch == .voting

/-- A concurrence taken, with the commit that it may make (R133, R134). -/
def State.addConcurrence (s : State) (ch : Channel) (e : ChangeEntry) : State :=
  let e := { e with concurrence := e.concurrence.set ch true }
  let s := (s.modEntry e.ticket fun _ => e).broadcastAt 0 (.concurred e.ticket (ChannelSet.card e.concurrence))
  if e.quorumMet s.store.installed then s.commit e else s

/-- The Change Table takes a CONCUR (R133). -/
def State.takeConcur (s : State) (ch : Channel) (payload : List Byte) : State :=
  let (ticket, digest) := decodeConcur payload
  match s.changes.named ticket with
  | none => s.refuse ch concurKind .unknownTicket
  | some e =>
    if !(s.mayConcur ch e) then s.refuse ch concurKind .notVoter
    else if digest ≠ e.payloadDigest then s.refuse ch concurKind .digestDiffers
    else if e.concurrence.get ch then s.refuse ch concurKind .alreadyConcurred
    else s.addConcurrence ch e

/-- The Change Table takes a RETRACT (R140). -/
def State.takeRetract (s : State) (ch : Channel) (payload : List Byte) : State :=
  match s.changes.named (decodeRetract payload) with
  | none => s.refuse ch retractKind .unknownTicket
  | some e =>
    if e.proposer ≠ ch then s.refuse ch retractKind .notVoter
    else s.voidEntry 0 .retracted e.ticket

end Sys2Proof.Machine
end

