-- ==== Sys2Proof/Machine/Views.lean ====
section
/-!
DEFINITION. The Read Unit (Reading the Part): the checks of READ, the six views and the CLEAR option.
-/

namespace Sys2Proof.Machine

/-- The fields of a READ (R161, R173). -/
structure ReadFields where
  view : View
  argument : Byte
  clear : Bool
deriving DecidableEq, Repr

/-- A READ's fields; absent when check 1 of R161 fails. -/
def decodeRead (p : List Byte) : Option ReadFields :=
  match p with
  | [view, argument, options] =>
    if options = 0 ∨ options = 1 then (viewOfCode view).map fun v => ⟨v, argument, options == 1⟩ else none
  | _ => none

/-- The argument is in range for the view (R161, check 2). -/
def ReadFields.inRange (f : ReadFields) : Bool :=
  match f.view with
  | .channel => (channelOfCode f.argument).isSome
  | .history => f.argument.toNat ≤ 15
  | .schema | .items => f.argument.toNat ≤ 31
  | .group | .pending => true

/-- The first check of R161, from check 2 on, that a READ fails. -/
def State.readRefusal (s : State) (ch : Channel) (f : ReadFields) : Option RefusalReason :=
  if !f.inRange then some .badField
  else if f.clear && !(f.view == .channel && channelOfCode f.argument == some ch) then some .badField
  else if (s.ports.get ch).replySlot.isSome then some .busy
  else none

/-! ## The views (R163 to R167, R170) -/

/-- The kind of change that an awaiting slot shows. -/
def AwaitedKind.changeKind : AwaitedKind → ChangeKind
  | .group => .group
  | .schema => .schema
  | .pardon _ => .pardon

/-- The installed epoch, 0 when EMPTY (R163). -/
def Store.installedEpoch (st : Store) : Word32 := (st.installed.map (·.epoch)).getD 0

/-- The installed digest, 0 when EMPTY (R163). -/
def Store.installedDigest (st : Store) : Word32 := (st.installed.map (·.digest)).getD 0

/-- The installed schema; no item when EMPTY (R164). -/
def Store.installedSchema (st : Store) : List SchemaItem := (st.installed.map (·.schema)).getD []

/-- A list with its places numbered from `i` on. -/
def numbered {α : Type} : Nat → List α → List (Nat × α)
  | _, [] => []
  | i, x :: rest => (i, x) :: numbered (i + 1) rest

/-- Up to 16 places of a list from place `first` on (R164, R165). -/
def pageFrom {α : Type} (first : Nat) (l : List α) : List (Nat × α) := numbered first ((l.drop first).take 16)

def State.groupView (s : State) : GroupView where
  installedEpoch := s.store.installedEpoch
  installedDigest := s.store.installedDigest
  currentEpoch := s.store.currentEpoch
  currentDigest := s.store.currentDigest
  awaiting := s.store.awaiting.map fun w => (w.kind.changeKind, w.config.firstCycle)
  record := s.store.installed.map (·.record)
  restartCause := s.store.restartCause
  groupState := s.groupState
  states := PerChannel.build s.channelState
  outputState := s.output.state
  voidRun := s.output.voidRun
  goodRun := s.output.goodRun
  timer := s.timer.running.map fun t => (t.nextCycle, t.period, t.deadlineOffset)
  part := s.part

def State.schemaView (s : State) (first : Nat) : SchemaView where
  itemCount := s.store.installedSchema.length
  epoch := s.store.installedEpoch
  entries := pageFrom first s.store.installedSchema

def State.itemsView (s : State) (first : Nat) : ItemsView where
  itemCount := s.store.installedSchema.length
  epoch := s.store.installedEpoch
  boundary := s.store.schemaBoundary
  entries := pageFrom first (s.store.items.take s.store.installedSchema.length)

def State.channelView (s : State) (ch : Channel) : ChannelView where
  member := s.members.get ch
  standing := s.standing.get ch

def State.historyView (s : State) (index : Nat) : HistoryView where
  present := s.history.length
  decisions := s.part.decisions
  record := s.history[index]?

/-- The ticks left until the founding expiry of a ticket (R167). -/
def Timer.ticksLeft (t : Timer) (ticket : Byte) : Word32 :=
  ((t.foundingExpiries.find? fun e => e.ticket == ticket).map fun e => e.tick - t.tickCount).getD 0

/-- An entry as the PENDING view shows it (R167). -/
def Timer.pendingEntry (t : Timer) (e : ChangeEntry) : PendingEntry where
  ticket := e.ticket
  kind := e.payload.kind
  proposer := e.proposer
  baseEpoch := e.baseEpoch
  payloadDigest := e.payloadDigest
  concurrence := e.concurrence
  committed := !e.isPending
  time :=
    match e.state, e.expiry with
    | .committed a, _ => .activates a
    | .pending, some c => .expires c
    | .pending, none => .ticksLeft (t.ticksLeft e.ticket)

def State.pendingView (s : State) : PendingView where
  ticketCounter := s.changes.ticketCounter
  entries := s.changes.entries.map s.timer.pendingEntry

/-- The snapshot of a view (R162). The argument has passed check 2, so a channel letter is a defined one. -/
def State.snapshot (s : State) (f : ReadFields) : Snapshot :=
  match f.view with
  | .group => .group s.groupView
  | .schema => .schema (s.schemaView f.argument.toNat)
  | .channel => .channel (s.channelView ((channelOfCode f.argument).getD .a))
  | .history => .history (s.historyView f.argument.toNat)
  | .pending => .pending s.pendingView
  | .items => .items (s.itemsView f.argument.toNat)

/-- The eighteen counters of a channel set to 0 (R109). -/
def State.clearCounters (s : State) (ch : Channel) : State :=
  s.modStanding ch fun st => { st with counters := Counters.zero }

/-- A REPLY placed in the reader's slot, the counters cleared afterwards when CLEAR is set (R109, R162). -/
def State.answerRead (s : State) (ch : Channel) (f : ReadFields) : State :=
  let reply : Reply := ⟨f.view, f.argument, s.store.currentEpoch, s.snapshot f⟩
  let s := s.modPort ch fun p => { p with replySlot := some reply }
  if f.clear then s.clearCounters ch else s

/-- The Read Unit takes a READ (R161). -/
def State.takeRead (s : State) (ch : Channel) (payload : List Byte) : State :=
  match decodeRead payload with
  | none => s.refuse ch readKind .badField
  | some f =>
    match s.readRefusal ch f with
    | some reason => s.refuse ch readKind reason
    | none => s.answerRead ch f

end Sys2Proof.Machine
end

