-- ==== Sys2Proof/Machine/Lines.lean ====
section
/-!
DEFINITION. The receive side of a channel port (R147 to R154): line states, the collection and judgement of frames, and
the delivery of good frames to their owners.
-/

namespace Sys2Proof.Machine

/-- The receive side ignores the line while RST_N is low (R160). -/
def State.receiving (s : State) : Bool := s.resetPin == .high

/-- The receiver after the closing delimiter of a frame, which opens the next one (R149). -/
def State.reopenFrame (s : State) (ch : Channel) : State :=
  s.modPort ch fun p => { p with receiver := .inFrame [] s.timer.tickCount }

/-- The link of a channel comes UP, as the Membership Table takes it (R35). -/
def State.linkUp (s : State) (ch : Channel) : State :=
  s.modMember ch fun m =>
    if m.state = .detached then { m with state := if m.holdoff = 0 then .linked else .excluded } else m

/-- A good frame judged in HUNT (R150, R151). -/
def State.goodInHunt (s : State) (ch : Channel) : State :=
  let s := s.count ch .framesGood
  if (s.ports.get ch).huntRun = 0 then s.modPort ch fun p => { p with huntRun := 1 }
  else (s.modPort ch fun p => { p with line := .up, huntRun := 0, badRun := 0 }).linkUp ch

/-- A bad frame judged in HUNT (R150, R151): counted, and not weighed, since the channel is DETACHED. -/
def State.badInHunt (s : State) (ch : Channel) : State :=
  (s.count ch .framesBad).modPort ch fun p => { p with huntRun := 0 }

/-- A bad frame judged in UP: counted and weighed, and then the bad run moves; the fourth takes the line to HUNT
(R104, R150, R152, R154). -/
def State.badInUp (s : State) (ch : Channel) : State :=
  let s := (s.count ch .framesBad).weighAndExclude ch 2
  let run := (s.ports.get ch).badRun + 1
  if run < 4 then s.modPort ch fun p => { p with badRun := run } else s.leaveUp ch .hunt

/-- A frame judged bad (R151, R152); a DOWN port judges none. -/
def State.judgedBad (s : State) (ch : Channel) : State :=
  match (s.ports.get ch).line with
  | .down => s
  | .hunt => s.badInHunt ch
  | .up => s.badInUp ch

/-- A frame judged good (R151 to R153): in UP it is handed to the block that owns its kind. -/
def State.judgedGood (s : State) (ch : Channel) (hand : State → State) : State :=
  match (s.ports.get ch).line with
  | .down => s
  | .hunt => s.goodInHunt ch
  | .up => hand ((s.count ch .framesGood).modPort ch fun p => { p with badRun := 0 })

/-- A good frame received whole on a port that is not DOWN; its closing delimiter opens the next frame (R149, R153).
DEDUCED: log entry 8. -/
def State.receiveGood (s : State) (ch : Channel) (hand : State → State) : State :=
  if s.receiving && (s.ports.get ch).line != .down then
    ((s.reopenFrame ch).judgedGood ch hand).settleNotices
  else s

/-- A good frame of a kind the part does not take: discarded, counted, and answered (R153). -/
def State.takeUnknown (s : State) (ch : Channel) (kind : Byte) : State :=
  (s.count ch .unknownKind).refuse ch kind .unknownKind

/-- A good frame handed to the owner of its kind (R153). -/
def State.handOver (ch : Channel) (kind : Byte) (payload : List Byte) (s : State) : State :=
  if kind = announceKind then s.takeAnnounce ch payload
  else if kind = leaveKind then s.takeLeave ch
  else if kind = proposalKind then s.takeProposal ch payload
  else if kind = changeKindByte then s.takeChange ch payload
  else if kind = concurKind then s.takeConcur ch payload
  else if kind = retractKind then s.takeRetract ch payload
  else if kind = readKind then s.takeRead ch payload
  else s.takeUnknown ch kind

/-- A frame that has not ended in time: judged bad, the receiver SEEKING (R149). -/
def State.abortFrame (s : State) (ch : Channel) : State :=
  (s.modPort ch fun p => { p with receiver := .seeking }).judgedBad ch

/-- The judgement of a body at its closing delimiter, carried out (R149, R150). -/
def State.endFrame (s : State) (ch : Channel) (body : List RxByte) (start : Tick) : State :=
  let reopened := s.reopenFrame ch
  match judge body start s.timer.tickCount with
  | .good kind payload => reopened.judgedGood ch (State.handOver ch kind payload)
  | .bad => reopened.judgedBad ch

/-- A received byte is a delimiter: 0xC5 without a framing error (R149). -/
def isDelimiter (b : RxByte) : Bool := b.data == delimiter && !b.framingError

/-- A byte collected on a port whose line is HUNT or UP (R149). -/
def State.collect (s : State) (ch : Channel) (b : RxByte) : State :=
  match (s.ports.get ch).receiver with
  | .seeking => if isDelimiter b then s.reopenFrame ch else s
  | .inFrame body start =>
    if isDelimiter b then if body = [] then s.reopenFrame ch else s.endFrame ch body start
    else if frameLimit ≤ body.length + 1 then s.abortFrame ch
    else s.modPort ch fun p => { p with receiver := .inFrame (body ++ [b]) start }

/-- The first byte on a DOWN port: the line goes to HUNT, and a delimiter opens a frame (R148). -/
def State.wakeLine (s : State) (ch : Channel) (b : RxByte) : State :=
  s.modPort ch fun p =>
    { p with
      line := .hunt
      huntRun := 0
      receiver := if isDelimiter b then .inFrame [] s.timer.tickCount else .seeking }

/-- A byte received on a channel port (R148, R149). -/
def State.receiveByte (s : State) (ch : Channel) (b : RxByte) : State :=
  if s.receiving then
    match (s.ports.get ch).line with
    | .down => s.wakeLine ch b
    | .hunt | .up => (s.collect ch b).settleNotices
  else s

/-- The line of a port is quiet (R147): the line state is DOWN, by way of leaving UP when it was UP. -/
def State.quietLine (s : State) (ch : Channel) : State :=
  if s.receiving then
    let quiet := s.modPort ch fun p => { p with receiver := .seeking, huntRun := 0, badRun := 0 }
    match (s.ports.get ch).line with
    | .up => (quiet.leaveUp ch .down).settleNotices
    | .hunt | .down => quiet.modPort ch fun p => { p with line := .down }
  else s

/-! ## Meanings -/

/-- LINE_ACTIVITY (R148). A byte on a port whose line is already active is collected (R149). -/
def execLineActivity (ch : Channel) (byte : RxByte) (s : State) : Host.Outcome State Fault Refusal :=
  .next (s.receiveByte ch byte)

/-- LINE_QUIET (R147). -/
def execLineQuiet (ch : Channel) (s : State) : Host.Outcome State Fault Refusal := .next (s.quietLine ch)

/-- HUNT_FRAME (R151). On a line that is not HUNT the event does not happen. -/
def execHuntFrame (ch : Channel) (good : Bool) (s : State) : Host.Outcome State Fault Refusal :=
  if s.receiving && (s.ports.get ch).line == .hunt then
    .next (if good then (s.reopenFrame ch).goodInHunt ch else (s.reopenFrame ch).badInHunt ch)
  else .next s

/-- BAD_FRAME (R152). A bad frame on a HUNT line is judged as R151 lays down. -/
def execBadFrame (ch : Channel) (s : State) : Host.Outcome State Fault Refusal :=
  if s.receiving && (s.ports.get ch).line != .down then .next ((s.reopenFrame ch).judgedBad ch).settleNotices
  else .next s

/-- FRAME_ABORT (R149). A DOWN port collects no frame. -/
def execFrameAbort (ch : Channel) (s : State) : Host.Outcome State Fault Refusal :=
  if s.receiving && (s.ports.get ch).line != .down then .next (s.abortFrame ch).settleNotices else .next s

/-- ANNOUNCE (R38, R153). -/
def execAnnounce (ch : Channel) (payload : List Byte) (s : State) : Host.Outcome State Fault Refusal :=
  .next (s.receiveGood ch fun s => s.takeAnnounce ch payload)

/-- LEAVE (R49, R153); any payload is ignored (R173). -/
def execLeave (ch : Channel) (_payload : List Byte) (s : State) : Host.Outcome State Fault Refusal :=
  .next (s.receiveGood ch fun s => s.takeLeave ch)

/-- PROPOSAL (R63, R153). -/
def execProposal (ch : Channel) (payload : List Byte) (s : State) : Host.Outcome State Fault Refusal :=
  .next (s.receiveGood ch fun s => s.takeProposal ch payload)

/-- CHANGE (R129, R153). -/
def execChange (ch : Channel) (payload : List Byte) (s : State) : Host.Outcome State Fault Refusal :=
  .next (s.receiveGood ch fun s => s.takeChange ch payload)

/-- CONCUR (R133, R153). -/
def execConcur (ch : Channel) (payload : List Byte) (s : State) : Host.Outcome State Fault Refusal :=
  .next (s.receiveGood ch fun s => s.takeConcur ch payload)

/-- RETRACT (R140, R153). -/
def execRetract (ch : Channel) (payload : List Byte) (s : State) : Host.Outcome State Fault Refusal :=
  .next (s.receiveGood ch fun s => s.takeRetract ch payload)

/-- READ (R161, R153). -/
def execRead (ch : Channel) (payload : List Byte) (s : State) : Host.Outcome State Fault Refusal :=
  .next (s.receiveGood ch fun s => s.takeRead ch payload)

/-- UNKNOWN_KIND (R153). With a kind code that the part takes, the event does not happen. -/
def execUnknownKind (ch : Channel) (kind : Byte) (s : State) : Host.Outcome State Fault Refusal :=
  if takenKinds.contains kind then .next s else .next (s.receiveGood ch fun s => s.takeUnknown ch kind)

end Sys2Proof.Machine
end

