-- ==== Sys2Proof/Machine/Transmit.lean ====
section
/-!
DEFINITION. The transmit sides (R123, R155 to R159) and the close of a round as a command (R74).
-/

namespace Sys2Proof.Machine

/-- The notice queue after its oldest notice is taken: LOST joins it when that empties it with notices lost (R157). -/
def Port.noticeTaken (p : Port) (rest : List Notice) : Port :=
  if rest = [] ∧ 0 < p.lostNotices then { p with notices := [.lost p.lostNotices], lostNotices := 0 }
  else { p with notices := rest }

/-- The choice of a free transmitter: mark slot, notice queue, verdict queue, reply slot, and otherwise fill (R155). -/
def Port.choose (p : Port) : Port :=
  match p.markSlot, p.notices, p.verdicts, p.replySlot with
  | some f, _, _, _ => { p with markSlot := none, transmitter := .frame (.mark f) }
  | none, n :: rest, _, _ => { p.noticeTaken rest with transmitter := .frame (.notice n) }
  | none, [], v :: rest, _ => { p with verdicts := rest, transmitter := .frame (.verdict v) }
  | none, [], [], some r => { p with replySlot := none, transmitter := .frame (.reply r) }
  | none, [], [], none => { p with transmitter := .fill }

/-- A frame waits in one of the port's slots. -/
def Port.hasFrame (p : Port) : Bool :=
  p.markSlot.isSome || p.notices != [] || p.verdicts != [] || p.replySlot.isSome

/-- The port's transmitter may choose: it sends fill, or what follows an abandoned frame (R155). -/
def Port.isFree (p : Port) : Bool := p.transmitter == .fill || p.transmitter == .abandoned

/-- A frame is in transmission. -/
def Transmitter.isSending : Transmitter → Bool
  | .frame _ => true
  | .silent | .fill | .abandoned => false

/-- The output link takes the oldest waiting DECISION, or goes idle (R123). -/
def OutputPort.nextFrame (o : OutputPort) : OutputPort :=
  match o.queue with
  | d :: rest => { o with queue := rest, link := .frame d }
  | [] => { o with link := .fill }

/-- The oldest present round, when it is SEALED. -/
def Window.oldestSealed (w : Window) : Option (Round × SealCause) :=
  match w.rounds with
  | r :: _ => r.sealedBy.map fun sl => (r, sl.cause)
  | [] => none

/-- TRANSMISSION_END (R155). With no frame in transmission the event does not happen (DESIGN CHOICE: log entry 6). -/
def execTransmissionEnd (ch : Channel) (s : State) : Host.Outcome State Fault Refusal :=
  if (s.ports.get ch).transmitter.isSending then .next (s.modPort ch Port.choose) else .next s

/-- TRANSMIT_CHOICE (R155). A transmitter that is sending a frame, or is silent, makes no choice. -/
def execTransmitChoice (ch : Channel) (s : State) : Host.Outcome State Fault Refusal :=
  if (s.ports.get ch).isFree then .next (s.modPort ch Port.choose) else .next s

/-- OUTPUT_TRANSMISSION_END (R123). With no frame in transmission the event does not happen (DESIGN CHOICE: log
entry 6). -/
def execOutputTransmissionEnd (s : State) : Host.Outcome State Fault Refusal :=
  match s.output.link with
  | .frame _ => .next { s with output := s.output.nextFrame }
  | .silent | .fill => .next s

/-- CLOSE (R74). While the oldest present round is OPEN, or none is present, there is nothing to close (R69, R74). -/
def execClose (s : State) : Host.Outcome State Fault Refusal :=
  match s.window.oldestSealed with
  | some (r, cause) => .next (s.closeRound r cause.closeCause).settleNotices
  | none => .next s

end Sys2Proof.Machine
end

