-- ==== Sys2Proof/Machine/Resets.lean ====
section
/-!
DEFINITION. Power-on, the warm reset and its release (R31, R175), and the commands of the Cycle Timer.
-/

namespace Sys2Proof.Machine

/-- The part after power-on, with the level of RST_N sampled at the first tick (R175): every block at its power-on
values, the transmitters silent while RST_N is low (R160), the tick count at an unspecified value (R32). -/
def State.poweredOn (s : State) (level : Level) : State :=
  { State.reset with
    resetPin := level
    timer := { Timer.reset with tickCount := Config.powerOnTick s.freeCount }
    output := { OutputPort.reset with link := if level = .high then .fill else .silent }
    ports := PerChannel.fill { Port.reset with transmitter := if level = .high then .fill else .silent }
    pending := s.pending
    freeCount := s.freeCount + 1 }

/-- The Configuration Store after a warm reset (R18): when EMPTY, only the restart cause changes. -/
def Store.warmReset (st : Store) : Store :=
  if st.installed.isNone then { st with restartCause := .pin }
  else
    { st with
      retained := []
      items := List.replicate 32 none
      schemaBoundary := none
      restartCause := .pin }

/-- The part when RST_N goes low (R18, R31, R57, R79, R81, R111, R120, R145, R160, R169). The next round number stays
until the release. -/
def State.resetStart (s : State) : State :=
  let empty := s.isEmpty
  { s with
    resetPin := .low
    store := s.store.warmReset
    timer := { s.timer with running := none, foundingExpiries := [], offers := [] }
    members := PerChannel.fill Member.reset
    groupState := if empty then .empty else .stalled
    window := { Window.reset with nextRound := s.window.nextRound }
    standing := PerChannel.fill Standing.reset
    part := PartCounters.zero
    changes := ChangeTable.reset
    output := { OutputPort.reset with state := if empty then .inactive else .safe, link := .silent }
    history := []
    ports := PerChannel.fill { Port.reset with transmitter := .silent } }

/-- The timer that starts at the release of a configured part (R31). -/
def State.restartedTimer (s : State) : Option RunningTimer :=
  match s.store.installed, s.store.retainedNextCycle with
  | some cfg, some n =>
    some ⟨n, s.timer.tickCount + BitVec.ofNat 32 cfg.record.period, cfg.record.period, cfg.record.deadlineOffset⟩
  | _, _ => none

/-- The part when RST_N goes high again (R31, R81, R160): a configured part restarts its timer and numbering, and every
transmitter begins fill. -/
def State.resetEnd (s : State) : State :=
  { s with
    resetPin := .high
    timer := { s.timer with running := s.restartedTimer }
    window := { s.window with nextRound := if s.isEmpty then none else s.store.retainedNextCycle }
    output := { s.output with link := .fill }
    ports := PerChannel.build fun ch => { s.ports.get ch with transmitter := .fill } }

/-- POWER_ON (R175). -/
def execPowerOn (resetHigh : Bool) (s : State) : Host.Outcome State Fault Refusal :=
  .next (s.poweredOn (if resetHigh then .high else .low))

/-- WARM_RESET (R31, R175). Only a fall of RST_N after a tick sampled high is a warm reset. -/
def execWarmReset (s : State) : Host.Outcome State Fault Refusal :=
  match s.resetPin with
  | .high => .next s.resetStart
  | .low => .next s

/-- RESET_RELEASE (R31, R175). With RST_N high already there is nothing to release. -/
def execResetRelease (s : State) : Host.Outcome State Fault Refusal :=
  match s.resetPin with
  | .low => .next s.resetEnd
  | .high => .next s

/-- MARK (R22, R24): the Cycle Timer opens the cycle when the event says so, every block having taken the mark before it
(R60), and the blocks named take their mark. -/
def execMark (event : MarkEvent) (s : State) : Host.Outcome State Fault Refusal :=
  match event with
  | .opens takers => .next (takers.foldl State.takeMark s.takeOwed.openCycle)
  | .takes takers => .next (takers.foldl State.takeMark s)

/-- DEADLINE_EXPIRY (R72). -/
def execDeadlineExpiry (cycle : Cycle) (s : State) : Host.Outcome State Fault Refusal := .next (s.expireDeadline cycle)

/-- FOUNDING_EXPIRY (R143). -/
def execFoundingExpiry (ticket : Byte) (s : State) : Host.Outcome State Fault Refusal :=
  .next (s.reachFoundingExpiry ticket).settleNotices

end Sys2Proof.Machine
end

