-- ==== Sys2Proof/Machine/Dispatch.lean ====
section
/-!
DEFINITION. One arm per command: each calls its meaning.
-/

namespace Sys2Proof.Machine

def exec (i : Instr) (s : State) : Host.Outcome State Fault Refusal :=
  match i with
  | .powerOn resetHigh => Sys2Proof.Machine.execPowerOn resetHigh s
  | .warmReset => Sys2Proof.Machine.execWarmReset s
  | .resetRelease => Sys2Proof.Machine.execResetRelease s
  | .mark event => Sys2Proof.Machine.execMark event s
  | .deadlineExpiry cycle => Sys2Proof.Machine.execDeadlineExpiry cycle s
  | .foundingExpiry ticket => Sys2Proof.Machine.execFoundingExpiry ticket s
  | .lineActivity ch byte => Sys2Proof.Machine.execLineActivity ch byte s
  | .lineQuiet ch => Sys2Proof.Machine.execLineQuiet ch s
  | .huntFrame ch good => Sys2Proof.Machine.execHuntFrame ch good s
  | .badFrame ch => Sys2Proof.Machine.execBadFrame ch s
  | .frameAbort ch => Sys2Proof.Machine.execFrameAbort ch s
  | .announce ch payload => Sys2Proof.Machine.execAnnounce ch payload s
  | .leave ch payload => Sys2Proof.Machine.execLeave ch payload s
  | .proposal ch payload => Sys2Proof.Machine.execProposal ch payload s
  | .change ch payload => Sys2Proof.Machine.execChange ch payload s
  | .concur ch payload => Sys2Proof.Machine.execConcur ch payload s
  | .retract ch payload => Sys2Proof.Machine.execRetract ch payload s
  | .read ch payload => Sys2Proof.Machine.execRead ch payload s
  | .unknownKind ch kind => Sys2Proof.Machine.execUnknownKind ch kind s
  | .transmissionEnd ch => Sys2Proof.Machine.execTransmissionEnd ch s
  | .transmitChoice ch => Sys2Proof.Machine.execTransmitChoice ch s
  | .outputTransmissionEnd => Sys2Proof.Machine.execOutputTransmissionEnd s
  | .close => Sys2Proof.Machine.execClose s

end Sys2Proof.Machine
end

