-- ==== Sys2Proof/Machine/Idle.lean ====
section
/-!
DEFINITION. What the part does of its own when no command waits (log entry 5): an event of its own that is ready is
taken, and otherwise one tick passes.
-/

namespace Sys2Proof.Machine

/-- A scheduled time is reached (R20): the tick count equals it or has passed it. -/
def State.reached (s : State) (t : Tick) : Bool := sameOrNewer s.timer.tickCount t

/-- The ready close: the oldest present round is SEALED (R74). -/
def State.readyClose (s : State) : List Instr := if s.window.oldestSealed.isSome then [.close] else []

/-- The ready choices: a free transmitter with a frame waiting (R155). -/
def State.readyChoices (s : State) : List Instr :=
  (Channel.all.filter fun ch => (s.ports.get ch).isFree && (s.ports.get ch).hasFrame).map .transmitChoice

/-- The marks on their way, each block taking its own (R24). -/
def State.readyTakes (s : State) : List Instr := s.timer.offers.map fun o => .mark (.takes [o.taker])

/-- The ready mark (R22). -/
def State.readyMark (s : State) : List Instr :=
  match s.timer.running with
  | some t => if s.reached t.nextMark then [.mark (.opens [])] else []
  | none => []

/-- The deadlines of OPEN rounds that are reached (R23). -/
def State.readyDeadlines (s : State) : List Instr :=
  (s.window.rounds.filter fun r => r.isOpen && s.reached r.deadline).map fun r => .deadlineExpiry r.cycle

/-- The founding expiries that are reached (R28). -/
def State.readyFoundings (s : State) : List Instr :=
  (s.timer.foundingExpiries.filter fun e => s.reached e.tick).map fun e => .foundingExpiry e.ticket

/-- The events of the part's own that are ready. -/
def State.readyEvents (s : State) : List Instr :=
  s.readyClose ++ s.readyChoices ++ s.readyTakes ++ s.readyMark ++ s.readyDeadlines ++ s.readyFoundings

/-- One tick passes (R20). -/
def State.tick (s : State) : State := { s with timer := { s.timer with tickCount := s.timer.tickCount + 1 } }

/-- The part with no command waiting: one ready event is taken, which one being free where several are ready, and
otherwise a tick passes. -/
def idle (s : State) : Host.Outcome State Fault Refusal :=
  match s.readyEvents with
  | [] => .next s.tick
  | [e] => exec e s
  | e :: rest =>
    exec ((e :: rest).getD (Config.nextEvent s.freeCount % (rest.length + 1)) e) { s with freeCount := s.freeCount + 1 }

end Sys2Proof.Machine
end

