-- ==== Sys2Proof/Safety.lean ====
section
/-!
DEFINITION. What a sound state of the part is: the bounds, the legal values and the agreements between blocks that the
rules of spec/ state, group by group, as decidable predicates, and their conjunction `Sound`.
-/

namespace Sys2Proof.Machine

/-! ## Bounds -/

/-- The eighteen counters as a list, in the order of R107. -/
def Counters.toList (c : Counters) : List Nat :=
  [c.framesGood, c.framesBad, c.unknownKind, c.proposalsTaken, c.late, c.early, c.epochWrong, c.duplicate, c.queueFull,
    c.notVoter, c.missingRounds, c.dissentRounds, c.abstainRounds, c.agreeRounds, c.admissions, c.exclusions,
    c.marksSkipped, c.verdictsDropped]

/-- Scores lie in 0..255 and per-channel counters in 0..65535 (R100, R107). -/
def Standing.bounded (st : Standing) : Bool := st.score ≤ 255 && st.counters.toList.all (· ≤ 65535)

/-- The part-wide counters stop at their maxima (R108). -/
def PartCounters.bounded (c : PartCounters) : Bool :=
  c.decisions ≤ 4294967295 && c.forcedCloses ≤ 65535 && c.outputOverruns ≤ 65535 && c.changesCommitted ≤ 65535
    && c.changesVoided ≤ 65535

/-- The ranges of R146. -/
def Port.bounded (p : Port) : Bool :=
  p.huntRun ≤ 2 && p.badRun ≤ 4 && p.notices.length ≤ 8 && p.verdicts.length ≤ 4 && p.lostNotices ≤ 255

/-- The ranges of R33. -/
def Member.bounded (m : Member) : Bool := m.holdoff ≤ 65535 && m.probationRun ≤ 255

/-- The capacities of the part: 4 entries a queue (R58), 4 rounds (R60), 2 change entries (R127), 2 waiting DECISION
frames (R113), 16 history records (R168), 32 item states (R13), and the ranges of every counter and run. -/
def State.bounded (s : State) : Bool :=
  Channel.all.all (fun ch =>
      (s.standing.get ch).bounded && (s.ports.get ch).bounded && (s.members.get ch).bounded
        && (s.window.queues.get ch).length ≤ 4)
    && s.part.bounded && s.window.rounds.length ≤ 4 && s.changes.entries.length ≤ 2 && s.output.queue.length ≤ 2
    && s.history.length ≤ 16 && s.store.items.length == 32

/-! ## Configuration Store -/

/-- The record and the schema of a configuration are valid, and its digest is theirs (R2, R4, R6). -/
def Configuration.sound (cfg : Configuration) : Bool :=
  cfg.record.valid && 1 ≤ cfg.schema.length && cfg.schema.length ≤ 32
    && cfg.digest == configurationDigest cfg.record cfg.schema

/-- A change that waits follows the installed configuration by one epoch, and carries over what its kind leaves as it
is (R5, R9, R128). -/
def Awaiting.follows (w : Awaiting) (cfg : Configuration) : Bool :=
  w.config.sound && w.config.epoch == cfg.epoch + 1 && w.config.epoch != 0
    && (match w.kind with
      | .group => w.config.schema == cfg.schema
      | .schema => w.config.record == cfg.record
      | .pardon _ => w.config.record == cfg.record && w.config.schema == cfg.schema)

/-- The store is EMPTY, with nothing kept, or holds a sound configuration with an epoch that is not 0, and every retained
configuration was such a one (R5, R10, R17, R19). -/
def Store.sound (st : Store) : Bool :=
  match st.installed with
  | none =>
    st.awaiting.isNone && st.retained == [] && st.schemaBoundary.isNone && st.retainedNextCycle.isNone
      && st.items.all (·.isNone)
  | some cfg =>
    cfg.sound && cfg.epoch != 0 && st.retainedNextCycle.isSome && st.retained.all (·.sound)
      && (match st.awaiting with | none => true | some w => w.follows cfg)

/-! ## Blocks that agree -/

/-- While the group is EMPTY the timer is STOPPED, there is no next round number, the output is INACTIVE and the group
state EMPTY; while it is configured, the timer runs exactly while RST_N is high (2.2, R51, R60, R113). -/
def State.groupAgrees (s : State) : Bool :=
  s.groupState == s.derivedGroupState
    && (match s.store.installed with
      | none =>
        s.timer.running.isNone && s.window.nextRound.isNone && s.output.state == .inactive && s.history == []
          && Channel.all.all fun ch =>
            (s.channelState ch == .detached || s.channelState ch == .linked) && (s.members.get ch).holdoff == 0
      | some _ =>
        (s.timer.running.isSome == (s.resetPin == .high)) && s.window.nextRound.isSome && s.output.state != .inactive
          && s.timer.foundingExpiries == [])

/-- SAFE_N is high in LIVE and HOLDOVER alone; a run is 0 in the states that do not count it (R113, R114). -/
def OutputPort.sound (o : OutputPort) : Bool :=
  o.safeN == o.state.safeNLevel
    && (o.voidRun == 0 || o.state == .live || o.state == .holdover) && (o.goodRun == 0 || o.state == .safe)
    && (o.queue == [] || (match o.link with | .frame _ => true | .silent | .fill => false))

/-- A channel is DETACHED exactly while its line is not UP (R33, R166); a port that is not UP holds no frame (R154,
R160); and the transmitters and the output link are silent exactly while RST_N is low (R147, R159, R160). -/
def State.linksAgree (s : State) : Bool :=
  (Channel.all.all fun ch =>
    let p := s.ports.get ch
    ((s.channelState ch == .detached) == (p.line != .up))
      && (p.line == .up
        || (p.markSlot.isNone && p.notices == [] && p.verdicts == [] && p.replySlot.isNone && p.lostNotices == 0
          && !p.transmitter.isSending))
      && ((p.transmitter == .silent) == (s.resetPin == .low))
      && (s.resetPin == .high || p.line == .down))
    && (s.output.link == .silent) == (s.resetPin == .low)

/-! ## Membership and standing -/

/-- Only member channels are in voter states (R34), a channel that is not a LINKED one waits out no holdoff unless it is
EXCLUDED or DETACHED (R39, R47), and only a PROBATION channel has a probation run (R42, R45, R46). -/
def State.membersSound (s : State) : Bool :=
  Channel.all.all fun ch =>
    let m := s.members.get ch
    (!m.state.isVoter || s.installedMembers.get ch)
      && (m.holdoff == 0 || m.state == .excluded || m.state == .detached)
      && (m.probationRun == 0 || m.state == .probation)

/-- No channel whose score has reached exclude_level is PROBATION or VOTING (R46, R102), and a CANDIDATE's score is 0
(R106). -/
def State.scoresSound (s : State) : Bool :=
  match s.store.installed with
  | none => true
  | some cfg =>
    Channel.all.all fun ch =>
      (!(s.channelState ch).isScored || (s.standing.get ch).score < cfg.record.excludeLevel)
        && (s.channelState ch != .candidate || (s.standing.get ch).score == 0)

/-! ## Round Window and History Buffer -/

/-- Cycle numbers that follow one another and end just before `next` (R60). -/
def endsBefore (next : Cycle) : List Cycle → Bool
  | [] => true
  | c :: rest => c == next - BitVec.ofNat 32 (rest.length + 1) && endsBefore next rest

/-- The cycles of the marks on their way to a block. -/
def Timer.offeredTo (t : Timer) (b : MarkTaker) : List Cycle := (t.offers.filter fun o => o.taker == b).map (·.cycle)

/-- The present rounds are consecutive and end before the next round number; the marks on their way are all of cycle N − 1,
at most one to each block, and the one to the Round Window leads from there to N (R24, R60, R68). -/
def State.roundsRun (s : State) : Bool :=
  match s.window.nextRound with
  | none => s.window.rounds == [] && s.timer.offers == []
  | some next =>
    endsBefore next (s.window.rounds.map (·.cycle))
      && (match s.timer.running with
        | none => s.timer.offers == [] && s.window.rounds == []
        | some t =>
          let ahead := s.timer.offeredTo .roundWindow
          endsBefore t.nextCycle ahead && t.nextCycle == next + BitVec.ofNat 32 ahead.length
            && s.store.retainedNextCycle == some t.nextCycle
            && s.timer.offers.all (fun o => o.cycle + 1 == t.nextCycle)
            && decide ((s.timer.offers.map (·.taker)).Nodup))

/-- A queue holds entries only for a voter state, at most one for a cycle, and only for present rounds and the next
round number (R58); the arrival sets show the queues (R61). -/
def State.queuesSound (s : State) : Bool :=
  Channel.all.all (fun ch =>
      let q := s.window.queues.get ch
      (q == [] || (s.channelState ch).isVoter)
        && decide ((q.map (·.cycle)).Nodup)
        && q.all fun e => s.window.nextRound == some e.cycle || s.window.rounds.any fun r => r.cycle == e.cycle)
    && s.window.rounds.all fun r => r.arrival == s.arrivalFor r.cycle

/-- No OPEN round is complete: a round found complete is sealed in the same event (R70, R71, R73). -/
def State.completeAreSealed (s : State) : Bool :=
  s.window.rounds.all fun r => !(r.isOpen && r.isComplete s.votingSet)

/-- The History Buffer holds the last decisions without a gap, newest first, ending just before the oldest present round
(R74, R168). -/
def State.historyRuns (s : State) : Bool :=
  match s.window.nextRound with
  | none => s.history == []
  | some next =>
    endsBefore ((s.window.rounds.head?.map (·.cycle)).getD next) (s.history.map (·.cycle)).reverse

/-! ## Change Table -/

/-- An entry of the Change Table is of a kind that the group state takes, names a ticket, and counts its proposer among
its concurrences; a PENDING entry's concurrences come from channels that may give them, and it builds on the current
epoch (R127, R129, R134, R141). -/
def State.entrySound (s : State) (e : ChangeEntry) : Bool :=
  e.ticket != 0 && (e.isFound == s.isEmpty)
    && (match e.payload with
      | .found r items => r.valid && 1 ≤ items.length && items.length ≤ 32
      | .group r => r.valid
      | .schema items => 1 ≤ items.length && items.length ≤ 32
      | .pardon _ | .dissolve => true)
    && (match e.state with
      | .pending =>
        s.store.awaiting.isNone && e.concurrence.get e.proposer && e.baseEpoch == s.store.currentEpoch
          && (e.payload == .dissolve || e.isFound || e.baseEpoch != 0xFFFFFFFF#32)
          && e.expiry.isSome != e.isFound
          && Channel.all.all fun ch =>
            !(e.concurrence.get ch) || s.channelState ch == (if e.isFound then .linked else .voting)
      | .committed activation =>
        e.expiry.isNone && (match s.store.awaiting with
          | some w => w.config.firstCycle == activation
          | none => false))

/-- At most one entry is COMMITTED, each has a distinct ticket, and the founding expiries are those of the FOUND entries
(R28, R127). -/
def State.changesSound (s : State) : Bool :=
  s.changes.entries.all s.entrySound
    && decide ((s.changes.entries.map (·.ticket)).Nodup)
    && (s.changes.entries.filter fun e => !e.isPending).length ≤ 1
    && s.timer.foundingExpiries.map (·.ticket) == (s.changes.entries.filter (·.isFound)).map (·.ticket)

/-! ## A sound state -/

/-- Between commands no notice is on its way to a queue (R157). -/
def State.outboxEmpty (s : State) : Bool := s.outbox == []

/-- A sound state of the part. -/
structure Sound (s : State) : Prop where
  bounded : s.bounded = true
  store : s.store.sound = true
  group : s.groupAgrees = true
  output : s.output.sound = true
  links : s.linksAgree = true
  members : s.membersSound = true
  scores : s.scoresSound = true
  rounds : s.roundsRun = true
  queues : s.queuesSound = true
  sealedRounds : s.completeAreSealed = true
  history : s.historyRuns = true
  changes : s.changesSound = true
  outbox : s.outboxEmpty = true

/-! ## Words for statements -/

/-- The parts of the state that a statement's frame names. The draw counter (`freeCount`), the model's own, is not among
them. -/
inductive Block where
  | resetPin | store | timer | members | groupState | window | standing | part | changes | output | history | ports
  | pending | outbox
deriving DecidableEq, Repr

/-- One part of the state is the same in `t` as in `s`. -/
def State.sameBlock (s t : State) : Block → Prop
  | .resetPin => t.resetPin = s.resetPin
  | .store => t.store = s.store
  | .timer => t.timer = s.timer
  | .members => t.members = s.members
  | .groupState => t.groupState = s.groupState
  | .window => t.window = s.window
  | .standing => t.standing = s.standing
  | .part => t.part = s.part
  | .changes => t.changes = s.changes
  | .output => t.output = s.output
  | .history => t.history = s.history
  | .ports => t.ports = s.ports
  | .pending => t.pending = s.pending
  | .outbox => t.outbox = s.outbox

/-- Every part of the state but those listed is the same in `t` as in `s`. -/
def State.keepsAllBut (s t : State) (changed : List Block) : Prop := ∀ b, b ∉ changed → s.sameBlock t b

/-- A port to which one notice is offered: an UP port queues or loses it, another discards it (R155, R157). -/
def Port.offered (p : Port) (n : Notice) : Port := if p.line = .up then p.takeNotice n else p

/-- The port of channel `o` when a good frame has been received in UP at the port of channel `ch`: the closing delimiter
has opened the next frame, and the bad run is 0 (R149, R152). -/
def State.heardPort (s : State) (ch o : Channel) : Port :=
  if o = ch then { s.ports.get ch with receiver := .inFrame [] s.timer.tickCount, badRun := 0 } else s.ports.get o

/-- The standing of channel `o` when a good frame has been received at the port of channel `ch` (R150). -/
def State.heardStanding (s : State) (ch o : Channel) : Standing :=
  if o = ch then { s.standing.get ch with counters := (s.standing.get ch).counters.bump .framesGood } else s.standing.get o

/-- A port whose waiting notices, with their lost count, are all that may differ. -/
def Port.sameButNotices (p q : Port) : Prop := q = { p with notices := q.notices, lostNotices := q.lostNotices }

/-- A round as the completeness check leaves it (R70, R71). -/
def Round.checked (voting : ChannelSet) (r : Round) : Round :=
  if r.sealedBy = none ∧ voting ≠ ChannelSet.empty ∧ (∀ ch ∈ Channel.all, voting.get ch = true → r.arrival.get ch = true)
  then { r with sealedBy := some ⟨.allIn, voting⟩ } else r

/-- What the first check that is met decides, of a table of checks in their order. -/
def firstMet {β : Type} (table : List (Bool × β)) : Option β := (table.find? (·.1)).map (·.2)

/-- Port `q` is port `p` when the notices `l` of one event have been offered to it, in an order that no rule fixes (R157). -/
def Port.offeredAll (p q : Port) (l : List Notice) : Prop :=
  ∃ order : List Notice, order.Perm l ∧ q = order.foldl Port.offered p

/-- The commands one after another. -/
def runAll : List Instr → State → Host.Outcome State Fault Refusal
  | [], s => .next s
  | c :: rest, s =>
    match exec c s with
    | .next t => runAll rest t
    | .fault f => .fault f
    | .refused r => .refused r

/-- A good frame of this kind code, received whole at channel `ch`'s port, as a command (R153, R171). -/
def frameCommand (ch : Channel) (kind : Byte) (payload : List Byte) : Instr :=
  if kind = 0x11#8 then .announce ch payload
  else if kind = 0x12#8 then .leave ch payload
  else if kind = 0x13#8 then .proposal ch payload
  else if kind = 0x14#8 then .change ch payload
  else if kind = 0x15#8 then .concur ch payload
  else if kind = 0x16#8 then .retract ch payload
  else if kind = 0x17#8 then .read ch payload
  else .unknownKind ch kind

/-- A request received in UP at channel `ch`'s port has been refused: the frame is counted good, REFUSED joins the
requester's notice queue, and nothing else has changed. -/
def State.refusedOnly (s t : State) (ch : Channel) (request : Byte) (reason : RefusalReason) : Prop :=
  (∀ o, t.standing.get o = s.heardStanding ch o)
    ∧ (∀ o, t.ports.get o =
        if o = ch then (s.heardPort ch o).takeNotice (.refused request reason) else s.heardPort ch o)
    ∧ s.keepsAllBut t [.standing, .ports]

/-! ## What becomes of a channel that leaves, or is excluded -/

/-- The departure of channel `ch` reaches the Change Table (R50, R141): it is VOTING, or it is LINKED while the group is
EMPTY. -/
def State.reachesChanges (s : State) (ch : Channel) : Bool :=
  s.channelState ch == .voting || (s.channelState ch == .linked && s.store.installed.isNone)

/-- The Change Table when channel `ch` has departed (R141): the PENDING entries it proposed are gone, and it is in no
concurrence set of the other PENDING ones. COMMITTED entries stay. -/
def ChangeTable.without (c : ChangeTable) (ch : Channel) : ChangeTable :=
  { c with
    entries := (c.entries.filter fun e => !(e.state == .pending && e.proposer == ch)).map fun e =>
      if e.state = .pending then { e with concurrence := e.concurrence.set ch false } else e }

/-- What is broadcast of the entries when channel `ch` departs (R141): CHANGE_VOIDED with PROPOSER_LEFT for an entry it
proposed, and CONCURRED with the count of the others for one it had concurred with. -/
def ChangeTable.departureNotices (c : ChangeTable) (ch : Channel) : List Notice :=
  c.entries.flatMap fun e =>
    if e.state ≠ .pending then []
    else if e.proposer = ch then [.changeVoided e.ticket .proposerLeft]
    else if e.concurrence.get ch then
      [.concurred e.ticket (Channel.all.filter fun o => o ≠ ch && e.concurrence.get o).length]
    else []

/-- The same when several channels depart one after another in one event (log entry 16). -/
def ChangeTable.departuresOf (c : ChangeTable) : List Channel → List Notice
  | [] => []
  | ch :: rest => c.departureNotices ch ++ (c.without ch).departuresOf rest

/-- The entries that have been voided are counted in changes_voided and have no founding expiry left; the table is `c` now
(R28, R108, R141). -/
def State.changesNow (s t : State) (c : ChangeTable) : Prop :=
  t.changes = c
    ∧ t.part.changesVoided = min (s.part.changesVoided + (s.changes.entries.length - c.entries.length)) 65535
    ∧ t.timer = { s.timer with
        foundingExpiries := s.timer.foundingExpiries.filter fun x => c.entries.any fun e => e.ticket == x.ticket }

/-- What follows in the other blocks from channel `ch` leaving its state for DETACHED, LINKED or EXCLUDED (R50, R51, R73,
R80, R141): its queue is empty and it is in no arrival set, OPEN rounds that this completes are sealed, the group state is
the one that the VOTING set gives, and the Change Table has taken the departure. -/
def State.leftBy (s t : State) (ch : Channel) : Prop :=
  (∀ x, t.window.queues.get x = if x = ch then [] else s.window.queues.get x)
    ∧ t.window.rounds =
        (s.window.rounds.map fun r => Round.checked t.votingSet { r with arrival := r.arrival.set ch false })
    ∧ t.window.nextRound = s.window.nextRound
    ∧ t.groupState = t.derivedGroupState
    ∧ s.changesNow t (if s.reachesChanges ch then s.changes.without ch else s.changes)
    ∧ t.part = { s.part with changesVoided := t.part.changesVoided }

/-- GROUP_STATE with the new state, when an event has changed it (R51). -/
def State.groupNotice (s t : State) : List Notice := if t.groupState = s.groupState then [] else [.groupState t.groupState]

/-- What is broadcast when channel `ch` has left, but for its exclusion (R51, R141). -/
def State.leftNotices (s t : State) (ch : Channel) : List Notice :=
  (if s.reachesChanges ch then s.changes.departureNotices ch else []) ++ s.groupNotice t

/-- Channel `ch`, and no other, has been excluded for its score (R46). -/
def State.scoreExcluded (s t : State) (ch : Channel) : Prop :=
  (∀ x, t.members.get x =
      if x = ch then { s.members.get x with state := .excluded, probationRun := 0, holdoff := s.currentHoldoff }
      else s.members.get x)
    ∧ s.leftBy t ch

/-- What a commit of the entry of a ticket broadcasts, in this order (R133, R135, R137, R138): CONCURRED with the new count,
CHANGE_VOIDED for the other entry, and what says that it is committed. -/
def State.commitNotices (s : State) (ticket : Byte) (count : Nat) (reason : VoidReason) (committed : Notice) : List Notice :=
  .concurred ticket count
    :: ((s.changes.entries.filter fun e => e.ticket != ticket).map fun e => .changeVoided e.ticket reason) ++ [committed]

/-! ## What a close of round `r` under configuration `cfg` decides, from the state `s` it is taken in -/

/-- Channel `ch` is in the counted set (R75): VOTING, and in the set that sealed the round when it is SEALED. -/
def State.counts (s : State) (r : Round) (ch : Channel) : Bool :=
  s.channelState ch == .voting
    && (match r.sealedBy with
      | some sl => sl.voters.get ch
      | none => true)

/-- Channel `ch` receives a standing class (R93, R94): it is counted, or compared, which the PROBATION channels are. -/
def State.judges (s : State) (r : Round) (ch : Channel) : Bool := s.counts r ch || s.channelState ch == .probation

/-- The entry of channel `ch` for the round (R58, R75). -/
def State.entryIn (s : State) (r : Round) (ch : Channel) : Option QueueEntry :=
  (s.window.queues.get ch).find? fun e => e.cycle == r.cycle

/-- What channel `ch`'s entry gives for item `i`: none without an entry and where it abstains. -/
def State.valueIn (s : State) (r : Round) (ch : Channel) (i : Nat) : Option Word16 :=
  (s.entryIn r ch).bind fun e => e.items.getD i none

/-- The value list of item `i`: what the counted channels give (R83). -/
def State.valuesIn (s : State) (r : Round) (i : Nat) : List Word16 :=
  (Channel.all.filter (s.counts r)).filterMap fun ch => s.valueIn r ch i

/-- The decided value of item `i`: the one voted, where the counted set reaches Qi (R84, R85, R87). -/
def State.decidedIn (s : State) (r : Round) (cfg : Configuration) (i : Nat) : Option Word16 :=
  if (Channel.all.filter (s.counts r)).length < cfg.record.itemQuorum then none
  else cfg.schema[i]?.bind fun item => item.vote cfg.record.itemQuorum (s.valuesIn r i)

/-- The item state that the close finds for item `i` (R15, R88): none for a round older than the schema boundary, and none
accepted before the activation cycle of a SCHEMA change that still waits and governs the round. -/
def State.heldIn (s : State) (r : Round) (i : Nat) : Option ItemState :=
  (s.store.items.getD i none).filter fun e =>
    !(s.store.schemaBoundary.any fun b => older r.cycle b)
      && !(s.store.awaiting.any fun w =>
        w.kind == .schema && sameOrNewer r.cycle w.config.firstCycle && older e.acceptanceCycle w.config.firstCycle)

/-- The result of item `i` (R83, R88, R89): the decided value, or what its fallback gives. -/
def State.itemIn (s : State) (r : Round) (cfg : Configuration) (i : Nat) (item : SchemaItem) : ItemResult :=
  match s.decidedIn r cfg i with
  | some v => ⟨v, .accepted, 0⟩
  | none =>
    match item.fallback, s.heldIn r i with
    | .hold, some e =>
      let distance := (r.cycle - e.acceptanceCycle).toNat
      ⟨e.value, .held, if e.saturated = false ∧ distance ≤ 254 then distance else 255⟩
    | _, _ => ⟨item.safeValue, .safed, 255⟩

/-- The round outcome (R90). -/
def State.outcomeIn (s : State) (r : Round) (cfg : Configuration) : RoundOutcome :=
  let isAccepted := fun i => (s.decidedIn r cfg i).isSome
  if (List.range cfg.schema.length).all isAccepted then .complete
  else if (List.range cfg.schema.length).any isAccepted then .mixed
  else .void

/-- The dissent list of channel `ch` (R92): the accepted items on which it gave a value that does not agree. -/
def State.dissentIn (s : State) (r : Round) (cfg : Configuration) (ch : Channel) : List Nat :=
  (List.range cfg.schema.length).filter fun i =>
    match cfg.schema[i]?, s.decidedIn r cfg i, s.valueIn r ch i with
    | some item, some decided, some v => !item.agrees decided v
    | _, _, _ => false

/-- Channel `ch`, which has an entry, abstains on an accepted item (R93). -/
def State.abstainsIn (s : State) (r : Round) (cfg : Configuration) (ch : Channel) : Bool :=
  (List.range cfg.schema.length).any fun i => (s.decidedIn r cfg i).isSome && (s.valueIn r ch i).isNone

/-- The own status in the VERDICT of channel `ch` (R94 to R96). -/
def State.ownStatusIn (s : State) (r : Round) (cfg : Configuration) (ch : Channel) : OwnStatus :=
  if s.counts r ch then if (s.entryIn r ch).isSome then .counted else .missing
  else if s.channelState ch = .probation then
    if (s.entryIn r ch).isNone then .missing
    else if s.dissentIn r cfg ch ≠ [] ∨ s.abstainsIn r cfg ch = true then .shadowDissent
    else .shadowAgreed
  else .notVoter

/-! ## What a close leaves behind -/

/-- Channel `x` has been excluded between `s` and `t`. -/
def State.excludesNow (s t : State) (x : Channel) : Bool := t.channelState x == .excluded && s.channelState x != .excluded

/-- The channels that an event has excluded out of VOTING, in letter order. -/
def State.votersExcluded (s t : State) : List Channel :=
  Channel.all.filter fun x => s.excludesNow t x && s.channelState x == .voting

/-- The notices of a close for channel `ch`, in no order (R45, R46, R51, R102, R117, R141): ADVISORY where its score has
crossed warn_level below exclude_level, OUTPUT_STATE at a change, EXCLUDED for each channel excluded, what their departures
bring, PROMOTED where it has entered VOTING, and GROUP_STATE at a change. -/
def State.closeNotices (s t : State) (installed : Configuration) (ch : Channel) : List Notice :=
  let before := (s.standing.get ch).score
  let after := (t.standing.get ch).score
  (if before < installed.record.warnLevel ∧ installed.record.warnLevel ≤ after ∧ after < installed.record.excludeLevel
      then [.advisory after] else [])
    ++ (if t.output.state = s.output.state then [] else [.outputState t.output.state])
    ++ (Channel.all.filter (s.excludesNow t)).map (fun x => .excluded x .score)
    ++ s.changes.departuresOf (s.votersExcluded t)
    ++ (if s.channelState ch = .probation ∧ t.channelState ch = .voting then [.promoted] else [])
    ++ s.groupNotice t

/-- The port of channel `ch` after a close: but for its VERDICTs, it has been offered the close's notices. -/
def State.toldAtClose (s t : State) (installed : Configuration) (ch : Channel) : Prop :=
  Port.offeredAll { s.ports.get ch with verdicts := (t.ports.get ch).verdicts } (t.ports.get ch)
    (s.closeNotices t installed ch)

/-! ## The check tables of spec/, as they stand there, over the bytes of a payload -/

/-- The checks of ANNOUNCE (R38). -/
def State.announceTable (s : State) (ch : Channel) (p : List Byte) : List (Bool × RefusalReason) :=
  [ (p.length != 18 || !(p.getD 1 0 == 1 || p.getD 1 0 == 2) || !((p.getD 0 0).toNat ≤ 3), .badField),
    (s.store.installed.isNone, .noGroup),
    (p.getD 0 0 != channelCode ch, .wrongPort),
    ([ChannelState.candidate, .probation, .voting, .observer].contains (s.channelState ch), .alreadyJoined),
    (0 < (s.members.get ch).holdoff, .holdoff),
    (field32 p 2 != s.store.currentEpoch, .staleEpoch),
    (field32 p 6 != s.store.currentDigest, .digestMismatch),
    (p.getD 1 0 == 1 && !(s.store.installed.any fun cfg => cfg.record.members.get ch), .notMember) ]

/-- The checks of LEAVE (R49). -/
def State.leaveTable (s : State) (ch : Channel) : List (Bool × RefusalReason) :=
  [ (s.store.installed.isNone, .noGroup),
    ([ChannelState.linked, .excluded].contains (s.channelState ch), .wrongState) ]

/-- A cycle lies in the acceptance span (R62): it is a present round's, or the next round number. -/
def State.inSpan (s : State) (c : Cycle) : Bool :=
  s.window.nextRound == some c || s.window.rounds.any fun r => r.cycle == c

/-- The checks of PROPOSAL (R63, R64, R173), each with the counter of its outcome. -/
def State.proposalTable (s : State) (ch : Channel) (p : List Byte) : List (Bool × CounterName) :=
  let c := field32 p 0
  let newer := s.window.nextRound.any fun n => older n c
  let queue := s.window.queues.get ch
  [ (s.store.installed.isNone || !([ChannelState.candidate, .probation, .voting].contains (s.channelState ch)), .notVoter),
    (p.length < 13, .epochWrong),
    ((!s.inSpan c && !newer) || (s.window.rounds.any fun r => r.cycle == c && r.sealedBy.isSome), .late),
    (newer, .early),
    (!((s.store.inForce c).any fun cfg =>
        field32 p 4 == cfg.epoch && field p 8 1 == cfg.schema.length && p.length == 13 + 2 * field p 8 1), .epochWrong),
    (queue.any fun e => e.cycle == c, .duplicate),
    (queue.length == 4, .queueFull) ]

/-- The checks of CHANGE (R129, R130). -/
def State.changeTable (s : State) (ch : Channel) (p : List Byte) : List (Bool × RefusalReason) :=
  let isFound := p.getD 0 0 == 1
  let isEmpty := s.store.installed.isNone
  let content := p.drop 9
  [ (p.length < 9 || !(1 ≤ (p.getD 0 0).toNat && (p.getD 0 0).toNat ≤ 5), .badField),
    (isEmpty && !isFound, .noGroup),
    (!isEmpty && isFound, .wrongState),
    (!isEmpty && s.channelState ch != .voting, .notVoter),
    (isEmpty && s.channelState ch != .linked, .wrongState),
    (field32 p 1 != s.store.currentEpoch, .staleEpoch),
    ((s.changes.entries.any fun e => e.state != .pending) || s.store.awaiting.isSome || s.changes.entries.length == 2,
      .busy),
    (!((changeKindOfCode (p.getD 0 0)).any fun kind =>
        (decodePayload kind s.installedMembers content).isSome && field32 p 5 == crc32 content), .badField),
    (isFound && !((validRecord (content.take 17)).any fun r => r.members.get ch), .notMember),
    (!isFound && p.getD 0 0 != 5 && s.store.currentEpoch == 0xFFFFFFFF#32, .epochLimit) ]

/-- The checks of CONCUR (R133); a missing byte of the payload is read as 0 (R173). -/
def State.concurTable (s : State) (ch : Channel) (p : List Byte) : List (Bool × RefusalReason) :=
  let named := s.changes.entries.find? fun e => e.ticket == p.getD 0 0 && e.state == .pending
  [ (p.getD 0 0 == 0 || named.isNone, .unknownTicket),
    (named.any fun e =>
        match e.payload with
        | .found r _ => s.channelState ch != .linked || !(r.members.get ch)
        | .group _ | .schema _ | .pardon _ | .dissolve => s.channelState ch != .voting, .notVoter),
    (named.any fun e => field32 (p ++ List.replicate 5 0) 1 != e.payloadDigest, .digestDiffers),
    (named.any fun e => e.concurrence.get ch, .alreadyConcurred) ]

/-- The checks of RETRACT (R140); a missing ticket byte is read as 0 (R173). -/
def State.retractTable (s : State) (ch : Channel) (p : List Byte) : List (Bool × RefusalReason) :=
  let named := s.changes.entries.find? fun e => e.ticket == p.getD 0 0 && e.state == .pending
  [ (p.getD 0 0 == 0 || named.isNone, .unknownTicket),
    (named.any fun e => e.proposer != ch, .notVoter) ]

/-- The checks of READ (R161). -/
def State.readTable (s : State) (ch : Channel) (p : List Byte) : List (Bool × RefusalReason) :=
  let view := p.getD 0 0
  let argument := p.getD 1 0
  let options := p.getD 2 0
  [ (p.length != 3 || !(options == 0 || options == 1) || !(1 ≤ view.toNat && view.toNat ≤ 6), .badField),
    ((view == 3 && !(argument.toNat ≤ 3)) || (view == 4 && !(argument.toNat ≤ 15))
      || ((view == 2 || view == 6) && !(argument.toNat ≤ 31)), .badField),
    (options == 1 && !(view == 3 && argument == channelCode ch), .badField),
    ((s.ports.get ch).replySlot.isSome, .busy) ]

/-- The oldest mark on its way to block `b` is `o`; `rest` are the marks on their way when `b` has taken it. -/
def Timer.offersNext (t : Timer) (b : MarkTaker) (o : MarkOffer) (rest : List MarkOffer) : Prop :=
  ∃ before after, t.offers = before ++ o :: after ∧ rest = before ++ after ∧ o.taker = b ∧ ∀ x ∈ before, x.taker ≠ b

end Sys2Proof.Machine
end

