-- ==== Sys2Proof/Certificates/Slice0/Obligations.lean ====
section
/-!
DEFINITION. The statements for the provers. Each docstring names the rules of spec/ that the statement formalises, or
the log entry it rests on where it is the model's own choice. Where a statement reads what a command does, it says which
parts of the state may change and leaves the rest as it was (`keepsAllBut`).
-/

open Sys2Proof Sys2Proof.Machine

/-! ## One step -/

/-- A step carries out the command at the front of the queue, with the queue's rest. The queue of commands is the model's
own (DESIGN CHOICE: log entries 6 and 14); the spec speaks of events, and of no queue of them. -/
def Obligations.StepRunsFrontCommand : Prop :=
  ∀ (s : State) (c : Instr) (rest : List Instr),
    s.pending = c :: rest → step s = exec c { s with pending := rest }

/-- With no command waiting the part takes one of its own ready events, or one tick passes: the model's choice, log
entry 5. The ready events are the close of a SEALED oldest round (R74), the choice of a free transmitter with a frame
waiting (R155), the taking of each mark on its way (R24), and, when the tick count has reached their time, the mark (R22),
the deadline of an OPEN round (R23) and a founding expiry (R28); and no others. -/
def Obligations.EmptyQueueTakesOwnEventOrTick : Prop :=
  (∀ s : State, s.pending = [] →
    (s.readyEvents = [] →
      step s = .next { s with timer := { s.timer with tickCount := s.timer.tickCount + 1 } })
      ∧ (s.readyEvents ≠ [] → ∃ e ∈ s.readyEvents, ∃ n, step s = exec e { s with freeCount := n }))
    ∧ ∀ (s : State) (e : Instr),
      let isReached := fun tick : Tick => sameOrNewer s.timer.tickCount tick = true
      e ∈ s.readyEvents ↔
        (e = .close ∧ ∃ r rest, s.window.rounds = r :: rest ∧ r.sealedBy ≠ none)
          ∨ (∃ ch, e = .transmitChoice ch
            ∧ ((s.ports.get ch).transmitter = .fill ∨ (s.ports.get ch).transmitter = .abandoned)
            ∧ ((s.ports.get ch).markSlot ≠ none ∨ (s.ports.get ch).notices ≠ [] ∨ (s.ports.get ch).verdicts ≠ []
              ∨ (s.ports.get ch).replySlot ≠ none))
          ∨ (∃ o ∈ s.timer.offers, e = .mark (.takes [o.taker]))
          ∨ (∃ run, s.timer.running = some run ∧ isReached run.nextMark ∧ e = .mark (.opens []))
          ∨ (∃ r ∈ s.window.rounds, r.sealedBy = none ∧ isReached r.deadline ∧ e = .deadlineExpiry r.cycle)
          ∨ ∃ x ∈ s.timer.foundingExpiries, isReached x.tick ∧ e = .foundingExpiry x.ticket

/-- Every command leads to a next state, and leaves the queue of waiting commands and, between commands, the empty outbox
as they are. All three are the model's: totality is log entry 13, the outbox log entry 3, the queue log entry 6. -/
def Obligations.CommandsLeaveTheQueue : Prop :=
  ∀ (c : Instr) (s : State), ∃ t, exec c s = .next t ∧ t.pending = s.pending ∧ (s.outbox = [] → t.outbox = [])

/-! ## Power-on and warm reset -/

/-- POWER_ON gives every block its power-on values (R17, R32, R57, R81, R111, R120, R145, R160, R169); the tick count
starts from an unspecified value, of which nothing is said. -/
def Obligations.PowerOnGivesPowerOnValues : Prop :=
  ∀ (s : State) (high : Bool), ∃ t, exec (.powerOn high) s = .next t
    ∧ t.resetPin = (if high then .high else .low)
    ∧ t.store = { installed := none, awaiting := none, retained := [], items := List.replicate 32 none
                  schemaBoundary := none, restartCause := .powerOn, retainedNextCycle := none }
    ∧ t.timer.running = none ∧ t.timer.foundingExpiries = [] ∧ t.timer.offers = []
    ∧ (∀ ch, t.members.get ch =
        { state := .detached, announcement := none, holdoff := 0, probationRun := 0, admissionCycle := none })
    ∧ t.groupState = .empty
    ∧ (∀ ch, t.window.queues.get ch = []) ∧ t.window.rounds = [] ∧ t.window.nextRound = none
    ∧ (∀ ch, (t.standing.get ch).score = 0 ∧ ∀ n ∈ (t.standing.get ch).counters.toList, n = 0)
    ∧ t.part = { decisions := 0, forcedCloses := 0, outputOverruns := 0, changesCommitted := 0, changesVoided := 0 }
    ∧ t.changes = { entries := [], ticketCounter := 0 }
    ∧ t.output = { state := .inactive, voidRun := 0, goodRun := 0, queue := []
                   link := if high then .fill else .silent, safeN := .low }
    ∧ t.history = []
    ∧ (∀ ch, t.ports.get ch =
        { line := .down, receiver := .seeking, huntRun := 0, badRun := 0, markSlot := none, notices := []
          verdicts := [], replySlot := none, lostNotices := 0, transmitter := if high then .fill else .silent })
    ∧ t.pending = s.pending

/-- A fall of RST_N stops the timer, detaches every channel, abandons every round, entry and frame, and clears the
counters, while the configuration, the awaiting slot, the retained next cycle and the tick count stay (R18, R31, R57,
R79, R111, R120, R145, R160, R169). -/
def Obligations.WarmResetKeepsOnlyTheConfiguration : Prop :=
  ∀ s : State, s.resetPin = .high → ∃ t, exec .warmReset s = .next t
    ∧ t.resetPin = .low
    ∧ t.store.installed = s.store.installed ∧ t.store.awaiting = s.store.awaiting
    ∧ t.store.retainedNextCycle = s.store.retainedNextCycle ∧ t.store.restartCause = .pin
    ∧ (s.store.installed ≠ none →
        t.store.retained = [] ∧ t.store.schemaBoundary = none ∧ t.store.items = List.replicate 32 none)
    ∧ (s.store.installed = none → t.store = { s.store with restartCause := .pin })
    ∧ t.timer = { tickCount := s.timer.tickCount, running := none, foundingExpiries := [], offers := [] }
    ∧ (∀ ch, t.members.get ch =
        { state := .detached, announcement := none, holdoff := 0, probationRun := 0, admissionCycle := none })
    ∧ t.groupState = (if s.store.installed = none then .empty else .stalled)
    ∧ (∀ ch, t.window.queues.get ch = []) ∧ t.window.rounds = [] ∧ t.window.nextRound = s.window.nextRound
    ∧ (∀ ch, (t.standing.get ch).score = 0 ∧ ∀ n ∈ (t.standing.get ch).counters.toList, n = 0)
    ∧ t.part = { decisions := 0, forcedCloses := 0, outputOverruns := 0, changesCommitted := 0, changesVoided := 0 }
    ∧ t.changes = { entries := [], ticketCounter := 0 }
    ∧ t.output = { state := if s.store.installed = none then .inactive else .safe, voidRun := 0, goodRun := 0
                   queue := [], link := .silent, safeN := .low }
    ∧ t.history = []
    ∧ (∀ ch, t.ports.get ch =
        { line := .down, receiver := .seeking, huntRun := 0, badRun := 0, markSlot := none, notices := []
          verdicts := [], replySlot := none, lostNotices := 0, transmitter := .silent })
    ∧ t.pending = s.pending ∧ t.outbox = s.outbox

/-- The release of RST_N starts fill on every transmitter; in a configured part it starts the timer at the retained next
cycle, one installed period ahead, and gives the window that number; in an EMPTY part both stay absent (R31, R81,
R160). -/
def Obligations.ResetReleaseResumesNumbering : Prop :=
  ∀ s : State, s.resetPin = .low → s.store.sound = true → ∃ t, exec .resetRelease s = .next t
    ∧ t.resetPin = .high
    ∧ (∀ cfg n, s.store.installed = some cfg → s.store.retainedNextCycle = some n →
        t.timer = { s.timer with
          running := some
            { nextCycle := n, nextMark := s.timer.tickCount + BitVec.ofNat 32 cfg.record.period
              period := cfg.record.period, deadlineOffset := cfg.record.deadlineOffset } }
          ∧ t.window = { s.window with nextRound := some n })
    ∧ (s.store.installed = none →
        t.timer = { s.timer with running := none } ∧ t.window = { s.window with nextRound := none })
    ∧ t.output = { s.output with link := .fill }
    ∧ (∀ ch, t.ports.get ch = { s.ports.get ch with transmitter := .fill })
    ∧ s.keepsAllBut t [.resetPin, .timer, .window, .output, .ports]

/-- Only a fall of RST_N after a high sample is a warm reset, and only a rise after a low one a release (R175); while RST_N
is low no received byte and no frame has an effect (R160). -/
def Obligations.ResetPinHoldsThePart : Prop :=
  ∀ (s : State) (ch : Channel) (payload : List Byte) (b : RxByte) (good : Bool) (kind : Byte),
    (s.resetPin = .high → exec .resetRelease s = .next s)
      ∧ (s.resetPin = .low →
        ∀ c ∈ [Instr.warmReset, .lineActivity ch b, .lineQuiet ch, .huntFrame ch good, .badFrame ch, .frameAbort ch,
            .announce ch payload, .leave ch payload, .proposal ch payload, .change ch payload, .concur ch payload,
            .retract ch payload, .read ch payload, .unknownKind ch kind],
          exec c s = .next s)

/-! ## The mark and its expiries -/

/-- The Cycle Timer's own part of a mark (R22): it opens cycle N under the configuration in force for it, schedules the
next mark from the mark's own time, and offers the mark with its cycle, its deadline and its time; while STOPPED it opens
nothing. The tick count is at least the mark's time afterwards (log entry 4). A block takes the mark as an event of its
own, the blocks named one after another; one with no mark on its way does nothing (R24). A mark opens only when every
block has taken the one before it (R60; log entry 7); blocks that owe it take it then, in the order of their offers, which
is the model's choice where R24 fixes none (DESIGN CHOICE: log entry 19). -/
def Obligations.MarkOpensCycle : Prop :=
  ∀ s : State,
    let takes := fun b : MarkTaker => Instr.mark (.takes [b])
    (s.timer.running = none → s.timer.offers = [] → exec (.mark (.opens [])) s = .next s)
      ∧ (∀ run cfg, s.timer.running = some run → s.timer.offers = [] → s.store.inForce run.nextCycle = some cfg →
        exec (.mark (.opens [])) s = .next
          { s with
            timer :=
              { tickCount := if older s.timer.tickCount run.nextMark then run.nextMark else s.timer.tickCount
                running := some
                  { nextCycle := run.nextCycle + 1
                    nextMark := run.nextMark + BitVec.ofNat 32 cfg.record.period
                    period := cfg.record.period
                    deadlineOffset := cfg.record.deadlineOffset }
                foundingExpiries := s.timer.foundingExpiries
                offers :=
                  [MarkTaker.roundWindow, .port .a, .port .b, .port .c, .port .d, .membership, .changeTable, .store].map
                    fun b =>
                      { taker := b, cycle := run.nextCycle
                        deadline := run.nextMark + BitVec.ofNat 32 cfg.record.deadlineOffset, time := run.nextMark } }
            store := { s.store with retainedNextCycle := some (run.nextCycle + 1) } })
      ∧ (∀ b, (∀ o ∈ s.timer.offers, o.taker ≠ b) → exec (takes b) s = .next s)
      ∧ (∀ blocks, exec (.mark (.takes blocks)) s = runAll (blocks.map takes) s)
      ∧ ∀ blocks, exec (.mark (.opens blocks)) s =
          runAll (s.timer.offers.map (fun o => takes o.taker) ++ .mark (.opens []) :: blocks.map takes) s

/-- The Round Window takes a mark with fewer than four rounds present (R68): the new round is OPEN with the given
deadline and the channels whose queues hold an entry for it, and seals at once when it is complete. -/
def Obligations.MarkOpensRound : Prop :=
  ∀ (s : State) (o : MarkOffer) (rest : List MarkOffer),
    s.timer.offersNext .roundWindow o rest → s.window.nextRound ≠ none → s.window.rounds.length ≤ 3 →
    (∀ r ∈ s.window.rounds, r.cycle ≠ o.cycle) → s.outbox = [] →
    ∃ arrival : ChannelSet, (∀ ch, arrival.get ch = (s.window.queues.get ch).any fun e => e.cycle == o.cycle)
      ∧ exec (.mark (.takes [.roundWindow])) s = .next
          { s with
            timer := { s.timer with offers := rest }
            window := { s.window with
              rounds := s.window.rounds ++
                [Round.checked s.votingSet ⟨o.cycle, o.deadline, arrival, none⟩]
              nextRound := some (o.cycle + 1) } }

/-- Four rounds at a mark (R69): the oldest is closed before the new one opens, FORCED and counted when it is OPEN, with its
own seal cause when it is SEALED. The close is that of a CLOSE command: an OPEN round is voted as if it had sealed at this
moment with the whole VOTING set (R75), and only the cause recorded and told is FORCED. Then the round of the mark opens
with the channels whose queues hold an entry for it, and seals at once when it is complete (R68, R70). -/
def Obligations.CapacityCloseAtFourRounds : Prop :=
  ∀ (s : State) (o : MarkOffer) (rest : List MarkOffer) (r r1 r2 r3 : Round), Sound s →
    s.timer.offersNext .roundWindow o rest → s.window.rounds = [r, r1, r2, r3] →
    let isForced := r.sealedBy = none
    let sealedNow : Round := if isForced then { r with sealedBy := some ⟨.deadline, s.votingSet⟩ } else r
    ∃ t u, exec (.mark (.takes [.roundWindow])) s = .next t
      ∧ exec .close { s with window := { s.window with rounds := [sealedNow, r1, r2, r3] } } = .next u
      ∧ (∃ arrival : ChannelSet, (∀ ch, arrival.get ch = (u.window.queues.get ch).any fun e => e.cycle == o.cycle)
        ∧ t.window =
          { queues := u.window.queues
            rounds := u.window.rounds ++ [Round.checked t.votingSet ⟨o.cycle, o.deadline, arrival, none⟩]
            nextRound := some (o.cycle + 1) })
      ∧ t.window.rounds.map (·.cycle) = [r1.cycle, r2.cycle, r3.cycle, o.cycle]
      ∧ t.part = { u.part with
          forcedCloses := if isForced then min (s.part.forcedCloses + 1) 65535 else s.part.forcedCloses }
      ∧ t.part.decisions = min (s.part.decisions + 1) 4294967295
      ∧ (∃ d earlier, u.history = d :: earlier ∧ d.cycle = r.cycle
          ∧ t.history = { d with cause :=
              (match r.sealedBy with
              | none => .forced
              | some ⟨.allIn, _⟩ => .allIn
              | some ⟨.deadline, _⟩ => .deadline) } :: earlier)
      ∧ (∀ ch, t.ports.get ch =
          { u.ports.get ch with
            verdicts :=
              if isForced ∧ (s.channelState ch).receivesVerdict = true then
                (u.ports.get ch).verdicts.dropLast
                  ++ (u.ports.get ch).verdicts.getLast?.toList.map fun v => { v with cause := .forced }
              else (u.ports.get ch).verdicts })
      ∧ t.timer = { s.timer with offers := rest }
      ∧ u.keepsAllBut t [.window, .timer, .part, .history, .ports]

/-- A port takes a mark (R25, R156): an UP port of a configured part holds the MARK, a replaced one being counted; other
ports build none. -/
def Obligations.MarkFillsMarkSlot : Prop :=
  ∀ (s : State) (ch : Channel) (o : MarkOffer) (rest : List MarkOffer),
    s.timer.offersNext (.port ch) o rest → s.outbox = [] →
    ∃ t, exec (.mark (.takes [.port ch])) s = .next t
      ∧ t.timer = { s.timer with offers := rest }
      ∧ (∀ x, t.ports.get x =
          if x = ch ∧ (s.ports.get ch).line = .up ∧ s.store.installed ≠ none then
            { s.ports.get ch with
              markSlot := some ⟨o.cycle, s.store.epochInForce o.cycle, s.groupState, s.output.state⟩ }
          else s.ports.get x)
      ∧ (∀ x, t.standing.get x =
          if x = ch ∧ (s.ports.get ch).line = .up ∧ s.store.installed ≠ none ∧ (s.ports.get ch).markSlot ≠ none then
            { s.standing.get ch with counters := { (s.standing.get ch).counters with
                marksSkipped := min ((s.standing.get ch).counters.marksSkipped + 1) 65535 } }
          else s.standing.get x)
      ∧ s.keepsAllBut t [.timer, .ports, .standing]

/-- The Membership Table takes a mark (R42, R47): every holdoff above 0 falls by one, and every CANDIDATE goes to
PROBATION in an ACTIVE group and to VOTING in a STALLED one, where it is told PROMOTED, all under the group state at the
start of the step; OPEN rounds that the new voters complete are sealed, and a change of the group state is broadcast. The
group state is EMPTY when no configuration is installed, ACTIVE when at least the installed Qi channels are VOTING, and
else STALLED (R51); the VOTING set holds the channels whose state in the table is VOTING. -/
def Obligations.CandidateStepMovesAllTogether : Prop :=
  (∀ s : State, s.derivedGroupState =
      (match s.store.installed with
      | none => .empty
      | some cfg =>
        if cfg.record.itemQuorum ≤ (Channel.all.filter fun ch => (s.members.get ch).state == .voting).length then .active
        else .stalled)
    ∧ ∀ ch, s.channelState ch = (s.members.get ch).state
      ∧ (s.votingSet.get ch = true ↔ (s.members.get ch).state = .voting))
  ∧ ∀ (s : State) (o : MarkOffer) (rest : List MarkOffer), Sound s → s.timer.offersNext .membership o rest →
    ∃ t, exec (.mark (.takes [.membership])) s = .next t
      ∧ (∀ ch, t.members.get ch =
          { s.members.get ch with
            holdoff := (s.members.get ch).holdoff - 1
            state :=
              (match (s.members.get ch).state, s.groupState with
              | .candidate, .active => .probation
              | .candidate, .stalled => .voting
              | st, _ => st) })
      ∧ t.groupState = t.derivedGroupState
      ∧ t.window = { s.window with rounds := s.window.rounds.map (Round.checked t.votingSet) }
      ∧ t.timer = { s.timer with offers := rest }
      ∧ (∀ ch, (s.ports.get ch).offeredAll (t.ports.get ch)
          ((if s.channelState ch = .candidate ∧ s.groupState = .stalled then [.promoted] else []) ++ s.groupNotice t))
      ∧ s.keepsAllBut t [.members, .groupState, .window, .timer, .ports]

/-- The Change Table takes the mark of cycle c (R142): exactly the PENDING entries whose expiry is c leave it, each
counted in changes_voided and reported to every UP port as CHANGE_VOIDED with EXPIRED. -/
def Obligations.MarkVoidsExpiredEntries : Prop :=
  ∀ (s : State) (o : MarkOffer) (rest : List MarkOffer), Sound s → s.timer.offersNext .changeTable o rest →
    let expired := s.changes.entries.filter fun e => e.state == .pending && e.expiry == some o.cycle
    ∃ t, exec (.mark (.takes [.changeTable])) s = .next t
      ∧ t.changes = { s.changes with
          entries := s.changes.entries.filter fun e => !(e.state == .pending && e.expiry == some o.cycle) }
      ∧ t.part = { s.part with changesVoided := min (s.part.changesVoided + expired.length) 65535 }
      ∧ t.timer = { s.timer with offers := rest }
      ∧ (∀ ch, (s.ports.get ch).offeredAll (t.ports.get ch) (expired.map fun e => .changeVoided e.ticket .expired))
      ∧ s.keepsAllBut t [.changes, .part, .timer, .ports]

/-- The store takes a mark of the activation cycle or newer (R10, R139): the awaiting configuration is installed, the
outgoing one retained exactly when a present round is older than the activation cycle, the slot and the COMMITTED entry
are gone, and the group state is the one the new configuration gives. A mark older than the activation cycle, or an empty
slot, leaves everything as it is. The item state table and the schema boundary stay but at a SCHEMA activation (R15), and
the rest of the store stays. The configuration in force for a cycle is the awaiting one from its activation cycle on, before
and after the activation alike; else, for a cycle older than the installed first cycle, the retained one whose span holds
it, which ends before the first cycle of the configuration that followed, the oldest serving every older cycle too; else the
installed one; and in an EMPTY group none, with epoch 0 (R8; how the retained list is searched is log entry 10). Cycles are
compared serially: one is older than those 1 to 2^31 - 1 after it (00_scope.md, Cycle numbers; the distance 2^31 is log
entry 9). -/
def Obligations.ActivationInstallsTheAwaitingChange : Prop :=
  (∀ c d : Cycle, (older c d = true ↔ 1 ≤ (d - c).toNat ∧ (d - c).toNat ≤ 2147483647)
      ∧ (sameOrNewer d c = true ↔ d = c ∨ older c d = true))
  ∧ (∀ (st : Store) (c : Cycle),
    let isAwaited := ∃ w, st.awaiting = some w ∧ sameOrNewer c w.config.firstCycle = true
    (st.installed = none → st.awaiting = none → st.inForce c = none)
      ∧ (∀ cfg, st.installed = some cfg →
        (∀ w, st.awaiting = some w → sameOrNewer c w.config.firstCycle = true → st.inForce c = some w.config)
          ∧ (¬ isAwaited → st.retained = [] ∨ older c cfg.firstCycle = false → st.inForce c = some cfg)
          ∧ ∀ before r next after, st.retained ++ [cfg] = before ++ r :: next :: after →
            older c cfg.firstCycle = true → older c next.firstCycle = true →
            (∀ x ∈ (before ++ [r]).tail, older c x.firstCycle = false) →
            retainedFor c st.retained = some r ∧ (¬ isAwaited → st.inForce c = some r))
      ∧ st.epochInForce c = (match st.inForce c with | some cfg => cfg.epoch | none => 0))
  ∧ ∀ (s : State) (o : MarkOffer) (rest : List MarkOffer), Sound s → s.timer.offersNext .store o rest →
    (∀ w, s.store.awaiting = some w → sameOrNewer o.cycle w.config.firstCycle = true →
      ∃ t, exec (.mark (.takes [.store])) s = .next t
        ∧ t.store.installed = some w.config ∧ t.store.awaiting = none
        ∧ t.store.retained =
            (if ∃ r ∈ s.window.rounds, older r.cycle w.config.firstCycle = true
              then s.store.retained ++ s.store.installed.toList else s.store.retained)
        ∧ (w.kind ≠ .schema →
            t.store.items = s.store.items ∧ t.store.schemaBoundary = s.store.schemaBoundary)
        ∧ t.store.restartCause = s.store.restartCause ∧ t.store.retainedNextCycle = s.store.retainedNextCycle
        ∧ (∀ c, sameOrNewer c w.config.firstCycle = true →
            s.store.inForce c = some w.config ∧ t.store.inForce c = some w.config)
        ∧ t.changes.entries = [] ∧ t.changes.ticketCounter = s.changes.ticketCounter
        ∧ t.groupState = t.derivedGroupState
        ∧ t.timer = { s.timer with offers := rest }
        ∧ s.keepsAllBut t [.store, .timer, .members, .groupState, .window, .standing, .changes, .ports])
      ∧ ((∀ w, s.store.awaiting = some w → sameOrNewer o.cycle w.config.firstCycle = false) →
        exec (.mark (.takes [.store])) s = .next { s with timer := { s.timer with offers := rest } })

/-- What a SCHEMA and a PARDON activation at cycle A do beyond the installation (R10, R15, R55, R105, R106): SCHEMA empties
the item states accepted before A and sets the boundary to A; PARDON sets the holdoff and the score of its channel to 0.
Nothing else of any item state, member, standing, round or queue changes, and ACTIVATED is offered to every UP port. -/
def Obligations.SchemaAndPardonActivationEffects : Prop :=
  ∀ (s : State) (o : MarkOffer) (rest : List MarkOffer) (w : Awaiting), Sound s → s.timer.offersNext .store o rest →
    s.store.awaiting = some w → w.kind ≠ .group → sameOrNewer o.cycle w.config.firstCycle = true →
    let isPardoned := fun x : Channel => w.kind = .pardon x
    ∃ t, exec (.mark (.takes [.store])) s = .next t
      ∧ t.store.schemaBoundary = (if w.kind = .schema then some w.config.firstCycle else s.store.schemaBoundary)
      ∧ (∀ i, t.store.items.getD i none =
          (s.store.items.getD i none).filter fun e =>
            w.kind != .schema || !(older e.acceptanceCycle w.config.firstCycle))
      ∧ t.store.restartCause = s.store.restartCause ∧ t.store.retainedNextCycle = s.store.retainedNextCycle
      ∧ (∀ x, t.members.get x = if isPardoned x then { s.members.get x with holdoff := 0 } else s.members.get x)
      ∧ (∀ x, t.standing.get x = if isPardoned x then { s.standing.get x with score := 0 } else s.standing.get x)
      ∧ (∀ x, t.ports.get x = (s.ports.get x).offered (.activated w.config.epoch w.config.firstCycle))
      ∧ s.keepsAllBut t [.store, .timer, .members, .standing, .changes, .ports]

/-- What a GROUP activation does to each channel (R54, R105): a voter that the new member set leaves out becomes
OBSERVER, a PROBATION or VOTING member whose score stands at or above the new exclude_level becomes EXCLUDED with the new
holdoff, which is broadcast, and both have their proposal queues emptied and leave every arrival set; every other channel
keeps its entry and its queue. OPEN rounds that this completes are sealed (R50), and ACTIVATED and a change of the group
state are broadcast (R10, R51). -/
def Obligations.GroupActivationDemotesAndClaims : Prop :=
  ∀ (s : State) (o : MarkOffer) (rest : List MarkOffer) (w : Awaiting), Sound s → s.timer.offersNext .store o rest →
    s.store.awaiting = some w → w.kind = .group → sameOrNewer o.cycle w.config.firstCycle = true →
    let demoted := fun ch : Channel =>
      [ChannelState.candidate, .probation, .voting].contains (s.channelState ch) && !(w.config.record.members.get ch)
    let claimed := fun ch : Channel =>
      [ChannelState.probation, .voting].contains (s.channelState ch) && w.config.record.members.get ch
        && decide (w.config.record.excludeLevel ≤ (s.standing.get ch).score)
    ∃ t, exec (.mark (.takes [.store])) s = .next t
      ∧ (∀ ch,
        let m := s.members.get ch
        (demoted ch = true → t.members.get ch = { m with state := .observer, probationRun := 0 }
            ∧ t.window.queues.get ch = [] ∧ t.standing.get ch = s.standing.get ch)
          ∧ (claimed ch = true →
            t.members.get ch =
                { m with state := .excluded, probationRun := 0, holdoff := w.config.record.holdoffCycles }
              ∧ t.window.queues.get ch = [] ∧ (t.standing.get ch).score = (s.standing.get ch).score
              ∧ (t.standing.get ch).counters = { (s.standing.get ch).counters with
                  exclusions := min ((s.standing.get ch).counters.exclusions + 1) 65535 })
          ∧ (demoted ch = false → claimed ch = false →
            t.members.get ch = m ∧ t.window.queues.get ch = s.window.queues.get ch
              ∧ t.standing.get ch = s.standing.get ch))
      ∧ t.window.rounds =
          (s.window.rounds.map fun r => Round.checked t.votingSet
            { r with arrival := PerChannel.build fun ch => r.arrival.get ch && !(demoted ch) && !(claimed ch) })
      ∧ t.window.nextRound = s.window.nextRound
      ∧ ∀ x, (s.ports.get x).offeredAll (t.ports.get x)
          ((Channel.all.filter claimed).map (fun ch => .excluded ch .score)
            ++ .activated w.config.epoch w.config.firstCycle :: s.groupNotice t)

/-- A deadline reached (R72): an OPEN round seals with cause DEADLINE and the VOTING set of the moment; a SEALED round
keeps its seal; a round that is not present has no deadline left. The tick count is at least the deadline afterwards (log
entry 4). -/
def Obligations.DeadlineSealsOpenRound : Prop :=
  ∀ (s : State) (c : Cycle),
    ((∀ r ∈ s.window.rounds, r.cycle ≠ c) → exec (.deadlineExpiry c) s = .next s)
      ∧ ∀ before r after, s.window.rounds = before ++ r :: after → r.cycle = c →
        (∀ x ∈ before ++ after, x.cycle ≠ c) →
        exec (.deadlineExpiry c) s = .next
          { s with
            timer := { s.timer with
              tickCount := if older s.timer.tickCount r.deadline then r.deadline else s.timer.tickCount }
            window := { s.window with
              rounds := before ++
                (match r.sealedBy with
                | none => { r with sealedBy := some ⟨.deadline, s.votingSet⟩ }
                | some _ => r) :: after } }

/-- A founding expiry reached (R28, R143): the timer drops it, the FOUND entry of its ticket leaves the table, every UP
port is offered CHANGE_VOIDED with EXPIRED, and the void is counted. An expiry that the timer does not hold has no
effect. The tick count is at least the expiry's tick afterwards (log entry 4). -/
def Obligations.FoundingExpiryVoidsTheEntry : Prop :=
  ∀ (s : State) (ticket : Byte), Sound s →
    ((∀ x ∈ s.timer.foundingExpiries, x.ticket ≠ ticket) → exec (.foundingExpiry ticket) s = .next s)
      ∧ ∀ x ∈ s.timer.foundingExpiries, x.ticket = ticket →
        ∃ t, exec (.foundingExpiry ticket) s = .next t
          ∧ t.changes = { s.changes with entries := s.changes.entries.filter fun e => e.ticket != ticket }
          ∧ t.timer = { s.timer with
              tickCount := if older s.timer.tickCount x.tick then x.tick else s.timer.tickCount
              foundingExpiries := s.timer.foundingExpiries.filter fun e => e.ticket != ticket }
          ∧ t.part = { s.part with changesVoided := min (s.part.changesVoided + 1) 65535 }
          ∧ (∀ ch, t.ports.get ch = (s.ports.get ch).offered (.changeVoided ticket .expired))
          ∧ s.keepsAllBut t [.changes, .timer, .part, .ports]

/-! ## The links -/

/-- In DOWN the first byte received is line activity (R148): the line becomes HUNT with hunt run 0, a delimiter opens a
frame, any other byte leaves the receiver SEEKING, and nothing is counted or reported. -/
def Obligations.FirstByteTakesDownLineToHunt : Prop :=
  ∀ (s : State) (ch : Channel) (b : RxByte), s.resetPin = .high → (s.ports.get ch).line = .down →
    exec (.lineActivity ch b) s = .next
      { s with
        ports := s.ports.set ch
          { s.ports.get ch with
            line := .hunt
            huntRun := 0
            receiver :=
              if b.data = 0xC5#8 ∧ b.framingError = false then .inFrame [] s.timer.tickCount else .seeking } }

/-- A quiet line goes DOWN (R147, R154, R36, R37): the frame being collected is dropped unjudged and both runs are 0. A
line that was UP has all its slots emptied, a waiting MARK being counted, and its frame in transmission abandoned; its
channel becomes DETACHED, with the exclusion of a voter counted, its holdoff set and EXCLUDED with LINK_LOST broadcast, and
leaves the other blocks as R50 lays down: of a VOTING channel, and of a LINKED one while the group is EMPTY, the departure
reaches the Change Table (R141). The holdoff it gets, as
at every exclusion, is holdoff_cycles of the current configuration, which is the awaiting one when the slot is occupied and
else the installed one; its epoch and digest are the current ones, 0 when the group is EMPTY (R7, R37, R46). -/
def Obligations.QuietLineGoesDown : Prop :=
  (∀ (s : State) (cfg : Configuration),
    (match s.store.awaiting with | some w => some w.config | none => s.store.installed) = some cfg →
      s.currentHoldoff = cfg.record.holdoffCycles ∧ s.store.current = some cfg
        ∧ s.store.currentEpoch = cfg.epoch ∧ s.store.currentDigest = cfg.digest)
  ∧ (∀ s : State, s.store.awaiting = none → s.store.installed = none →
      s.store.current = none ∧ s.store.currentEpoch = 0 ∧ s.store.currentDigest = 0)
  ∧ ∀ (s : State) (ch : Channel), s.resetPin = .high → Sound s →
    let p := s.ports.get ch
    let m := s.members.get ch
    let c := (s.standing.get ch).counters
    let isVoter := m.state = .candidate ∨ m.state = .probation ∨ m.state = .voting
    (p.line ≠ .up → exec (.lineQuiet ch) s = .next
        { s with ports := s.ports.set ch { p with line := .down, receiver := .seeking, huntRun := 0, badRun := 0 } })
      ∧ (p.line = .up → ∃ t, exec (.lineQuiet ch) s = .next t
        ∧ t.ports.get ch =
            { line := .down, receiver := .seeking, huntRun := 0, badRun := 0, markSlot := none, notices := []
              verdicts := [], replySlot := none, lostNotices := 0
              transmitter := (match p.transmitter with | .frame _ => .abandoned | x => x) }
        ∧ (∀ x, x ≠ ch → (s.ports.get x).offeredAll (t.ports.get x)
            ((if isVoter then [.excluded ch .linkLost] else []) ++ s.leftNotices t ch))
        ∧ (∀ x, t.members.get x = if x = ch then { m with state := .detached, probationRun := 0
                                                          holdoff := if isVoter then s.currentHoldoff else m.holdoff }
            else s.members.get x)
        ∧ (∀ x, t.standing.get x =
            if x = ch then { s.standing.get ch with counters := { c with
                marksSkipped := if p.markSlot = none then c.marksSkipped else min (c.marksSkipped + 1) 65535
                exclusions := if isVoter then min (c.exclusions + 1) 65535 else c.exclusions } }
            else s.standing.get x)
        ∧ s.leftBy t ch
        ∧ s.keepsAllBut t [.ports, .members, .standing, .window, .groupState, .changes, .timer, .part])

/-- In HUNT each judged frame moves the hunt run (R151), is counted (R150), and is handed to no block; the second
consecutive good frame brings the line UP, and its channel becomes LINKED, or EXCLUDED while its holdoff runs (R35). A
frame that comes as BAD_FRAME, or as the command of any kind, to a HUNT line is that judged frame and nothing more. On a
line that is not HUNT there is no HUNT_FRAME, and to a DOWN line no frame comes: such a command changes nothing (DESIGN
CHOICE: log entry 6). -/
def Obligations.HuntRunBringsTheLineUp : Prop :=
  ∀ (s : State) (ch : Channel),
    let p := { s.ports.get ch with receiver := Receiver.inFrame [] s.timer.tickCount }
    let st := s.standing.get ch
    let good := s.standing.set ch { st with counters := { st.counters with
      framesGood := min (st.counters.framesGood + 1) 65535 } }
    let bad := s.standing.set ch { st with counters := { st.counters with
      framesBad := min (st.counters.framesBad + 1) 65535 } }
    ((s.ports.get ch).line ≠ .hunt → ∀ g, exec (.huntFrame ch g) s = .next s)
      ∧ (s.resetPin = .high → p.line = .hunt →
        exec (.huntFrame ch false) s = .next
            { s with standing := bad, ports := s.ports.set ch { p with huntRun := 0 } }
          ∧ (p.huntRun = 0 → exec (.huntFrame ch true) s = .next
            { s with standing := good, ports := s.ports.set ch { p with huntRun := 1 } })
          ∧ (p.huntRun ≠ 0 → (s.members.get ch).state = .detached → exec (.huntFrame ch true) s = .next
            { s with
              standing := good
              ports := s.ports.set ch { p with line := .up, huntRun := 0, badRun := 0 }
              members := s.members.set ch { s.members.get ch with
                state := if (s.members.get ch).holdoff = 0 then .linked else .excluded } })
          ∧ (s.outbox = [] → exec (.badFrame ch) s = exec (.huntFrame ch false) s
            ∧ ∀ kind payload, exec (frameCommand ch kind payload) s = exec (.huntFrame ch true) s))
      ∧ (p.line = .down → exec (.badFrame ch) s = .next s ∧ exec (.frameAbort ch) s = .next s
        ∧ ∀ kind payload, exec (frameCommand ch kind payload) s = .next s)

/-- A bad frame in UP with the bad run below 3 (R101, R102, R104, R152), in any group or none: it is counted, the bad run
rises, and a PROBATION or VOTING channel's score rises by 2. While the score stays below exclude_level the channel keeps
its state, with ADVISORY at the crossing of warn_level; at or above it the channel is EXCLUDED in the same event, which
is broadcast and handed on (R46, R50). -/
def Obligations.BadFrameIsCountedAndWeighed : Prop :=
  ∀ (s : State) (ch : Channel), s.resetPin = .high → Sound s →
    (s.ports.get ch).line = .up → (s.ports.get ch).badRun < 3 →
    let st := s.standing.get ch
    let isScored := s.channelState ch = .probation ∨ s.channelState ch = .voting
    let score := if isScored then min (st.score + 2) 255 else st.score
    let c := st.counters.bump .framesBad
    let heard : PerChannel Port := s.ports.set ch
      { s.ports.get ch with receiver := .inFrame [] s.timer.tickCount, badRun := (s.ports.get ch).badRun + 1 }
    let crosses := fun level : GroupRecord → Nat =>
      isScored ∧ ∃ cfg, s.store.installed = some cfg ∧ st.score < level cfg.record ∧ level cfg.record ≤ score
    ∃ t, exec (.badFrame ch) s = .next t
      ∧ (¬ crosses (·.excludeLevel) →
        t.standing = s.standing.set ch { score, counters := c }
          ∧ (crosses (·.warnLevel) → t.ports = heard.set ch ((heard.get ch).takeNotice (.advisory score)))
          ∧ (¬ crosses (·.warnLevel) → t.ports = heard)
          ∧ s.keepsAllBut t [.standing, .ports])
      ∧ (crosses (·.excludeLevel) →
        t.standing = s.standing.set ch { score, counters := { c with exclusions := min (c.exclusions + 1) 65535 } }
          ∧ s.scoreExcluded t ch
          ∧ (∀ x, (heard.get x).offeredAll (t.ports.get x) (.excluded ch .score :: s.leftNotices t ch))
          ∧ s.keepsAllBut t [.standing, .members, .window, .groupState, .changes, .part, .timer, .ports])

/-- The fourth consecutive bad frame takes an UP line to HUNT (R152, R154): the frame is counted, all slots are emptied,
the frame in transmission is abandoned, both runs are 0 and the channel is DETACHED; a voter's exclusion is counted once
and broadcast, with reason SCORE where the frame's weight took it to exclude_level and LINK_LOST otherwise (R104). The
other blocks take the departure as R50 and R141 lay down. -/
def Obligations.FourthBadFrameTakesLineToHunt : Prop :=
  ∀ (s : State) (ch : Channel), s.resetPin = .high → Sound s → (s.ports.get ch).line = .up →
    3 ≤ (s.ports.get ch).badRun →
    let c := (s.standing.get ch).counters
    let m := s.members.get ch
    let isVoter := m.state = .candidate ∨ m.state = .probation ∨ m.state = .voting
    let isScored := m.state = .probation ∨ m.state = .voting
    let score := if isScored then min ((s.standing.get ch).score + 2) 255 else (s.standing.get ch).score
    ∃ t, exec (.badFrame ch) s = .next t
      ∧ t.ports.get ch =
          { line := .hunt, receiver := .inFrame [] s.timer.tickCount, huntRun := 0, badRun := 0, markSlot := none
            notices := [], verdicts := [], replySlot := none, lostNotices := 0
            transmitter := (match (s.ports.get ch).transmitter with | .frame _ => .abandoned | x => x) }
      ∧ t.members.get ch =
          { m with state := .detached, probationRun := 0, holdoff := if isVoter then s.currentHoldoff else m.holdoff }
      ∧ (t.standing.get ch).counters =
          { c with
            framesBad := min (c.framesBad + 1) 65535
            marksSkipped :=
              if (s.ports.get ch).markSlot = none then c.marksSkipped else min (c.marksSkipped + 1) 65535
            exclusions := if isVoter then min (c.exclusions + 1) 65535 else c.exclusions }
      ∧ (t.standing.get ch).score = score
      ∧ (∀ x, x ≠ ch → t.members.get x = s.members.get x ∧ t.standing.get x = s.standing.get x)
      ∧ (∃ reason : ExclusionReason,
        (reason = .score ↔ isScored ∧ ∃ cfg, s.store.installed = some cfg ∧ cfg.record.excludeLevel ≤ score)
        ∧ ∀ x, x ≠ ch → (s.ports.get x).offeredAll (t.ports.get x)
            ((if isVoter then [.excluded ch reason] else []) ++ s.leftNotices t ch))
      ∧ s.leftBy t ch
      ∧ s.keepsAllBut t [.ports, .members, .standing, .window, .groupState, .changes, .timer, .part]

/-- A frame aborted at the limit is judged bad as any other bad frame is, and the receiver goes to SEEKING (R149). A byte
received that is no delimiter and that is the 300th after the frame's start aborts it. -/
def Obligations.AbortedFrameIsJudgedBad : Prop :=
  ∀ (s : State) (ch : Channel), s.resetPin = .high → (s.ports.get ch).line ≠ .down →
    (∃ t u, exec (.frameAbort ch) s = .next t ∧ exec (.badFrame ch) s = .next u
      ∧ (u.ports.get ch).receiver = .inFrame [] s.timer.tickCount
      ∧ t = { u with ports := u.ports.set ch { u.ports.get ch with receiver := .seeking } })
      ∧ ∀ (b : RxByte) (body : List RxByte) (start : Tick), (b.data ≠ 0xC5#8 ∨ b.framingError = true) →
        (s.ports.get ch).receiver = .inFrame body start → 299 ≤ body.length →
        exec (.lineActivity ch b) s = exec (.frameAbort ch) s

/-- A good frame of a kind the part does not take (R153): it is discarded, counted in frames_good and in unknown_kind, and
answered with REFUSED carrying the kind code received and UNKNOWN_KIND. This notice, like any other offered to a port, joins
the end of a queue of fewer than 8; one offered to a queue of 8 is dropped and raises the lost-notice count, which stops at
255 (R157). -/
def Obligations.UnknownKindIsCountedAndAnswered : Prop :=
  (∀ (p : Port) (n : Notice),
    (p.notices.length ≤ 7 → p.takeNotice n = { p with notices := p.notices ++ [n] })
      ∧ (8 ≤ p.notices.length → p.takeNotice n = { p with lostNotices := min (p.lostNotices + 1) 255 }))
  ∧ ∀ (s : State) (ch : Channel) (kind : Byte), s.resetPin = .high → (s.ports.get ch).line = .up → s.outbox = [] →
    kind ∉ [0x11#8, 0x12#8, 0x13#8, 0x14#8, 0x15#8, 0x16#8, 0x17#8] →
    let c := (s.standing.get ch).counters
    ∃ t, exec (.unknownKind ch kind) s = .next t
      ∧ t.standing = s.standing.set ch
          { s.standing.get ch with counters := { c with
              framesGood := min (c.framesGood + 1) 65535, unknownKind := min (c.unknownKind + 1) 65535 } }
      ∧ t.ports = s.ports.set ch ((s.heardPort ch ch).takeNotice (.refused kind .unknownKind))
      ∧ s.keepsAllBut t [.standing, .ports]

/-! ## Frames and encodings -/

/-- A frame sent as R171 lays down is judged good by the tests of R150, with its kind and its payload, whatever the
payload: from the levels of the line the receive side takes two delimiters and between them a body, and no byte of it is
lost in escaping or in the check. The body holds kind, length, payload and CRC-16, most significant byte first, each byte
that equals 0xC5 or 0xCA as 0xCA and its XOR with 0x20; both CRCs take their bytes in order and the bits of a byte from the
most significant on (R171, R172). -/
def Obligations.SentFrameIsJudgedGood : Prop :=
  (∀ (kind : Byte) (payload : List Byte),
    let checked := kind :: BitVec.ofNat 8 payload.length :: payload
    let crc := crc16 checked
    frameOnLine kind payload = 0xC5#8 :: bodyOnLine kind payload ++ [0xC5#8]
      ∧ bodyOnLine kind payload =
          (checked ++ [crc.extractLsb' 8 8, crc.extractLsb' 0 8]).flatMap fun b =>
            if b = 0xC5#8 ∨ b = 0xCA#8 then [0xCA#8, b ^^^ 0x20#8] else [b])
  ∧ (let bitsOf := fun b : Byte => [7, 6, 5, 4, 3, 2, 1, 0].map b.getLsbD
    crc16 [] = 0xFFFF#16 ∧ crc32 [] = 0xFFFFFFFF#32
      ∧ ∀ (bytes : List Byte) (b : Byte),
        crc16 (bytes ++ [b]) = (bitsOf b).foldl
            (fun (r : BitVec 16) bit => if r.msb = bit then r <<< 1 else (r <<< 1) ^^^ 0x1021#16) (crc16 bytes)
          ∧ crc32 (bytes ++ [b]) = (bitsOf b).foldl
            (fun (r : BitVec 32) bit => if r.msb = bit then r <<< 1 else (r <<< 1) ^^^ 0x04C11DB7#32) (crc32 bytes))
  ∧ ∀ (kind : Byte) (payload : List Byte) (start now : Tick), deliverable kind payload = true →
    (now - start).toNat ≤ 150 →
    ∃ body : List RxByte, receivedBytes ((frameOnLine kind payload).flatMap bitsOnLine) =
        ⟨0xC5#8, false⟩ :: body ++ [⟨0xC5#8, false⟩]
      ∧ (∀ x ∈ body, x.data ≠ 0xC5#8) ∧ judge body start now = .good kind payload

/-- Between the delimiters of a frame no byte is a delimiter, and removing the escapes gives back the bytes before escaping
(R171); a body that ends in an escape byte is judged bad whatever was received before it, so that what a port sends when
it abandons a frame is accepted by no receiver (R150, R154). A byte is ten bits on the line, start bit low, data bits
least significant first, stop bit high, with the line at rest high between bytes (R171); received with its stop bit low it
has a framing error, and a frame that holds one is bad (R149, R150). Any other body is judged good exactly when it ended
within the limit, 300 byte times and 150 ticks, and its bytes are the escaped ones of its kind, its length, its payload and
their CRC: one with another length, another CRC, an escape not followed by 0xE5 or 0xEA, or one byte too many is bad
(R150). -/
def Obligations.EscapingIsUndoneAndCutFramesAreBad : Prop :=
  (∀ bytes : List Byte, 0xC5#8 ∉ bytes.flatMap escaped ∧ unescaped (bytes.flatMap escaped) = some bytes)
    ∧ (∀ (received : List RxByte) (framingError : Bool) (start now : Tick),
      judge (received ++ [⟨0xCA#8, framingError⟩]) start now = .bad)
    ∧ (∀ (bytes : List Byte) (gap : Nat),
      receivedBytes (bytes.flatMap fun b => bitsOnLine b ++ List.replicate gap restLevel) = bytes.map fun b => ⟨b, false⟩)
    ∧ (∀ (b : Byte) (rest : List Bool),
      (bitsOnLine b).length = 10 ∧ (bitsOnLine b).head? = some false ∧ (bitsOnLine b).getLast? = some true
        ∧ (∀ i, i < 8 → (bitsOnLine b)[i + 1]? = some (b.getLsbD i))
        ∧ receivedBytes ((bitsOnLine b).dropLast ++ false :: rest) = ⟨b, true⟩ :: receivedBytes rest)
    ∧ (∀ (body : List RxByte) (start now : Tick), (∃ x ∈ body, x.framingError = true) → judge body start now = .bad)
    ∧ ∀ (body : List RxByte) (start now : Tick), (∀ x ∈ body, x.data ≠ 0xC5#8 ∧ x.framingError = false) →
      ∀ (kind : Byte) (payload : List Byte), judge body start now = .good kind payload ↔
        body.length < 300 ∧ (now - start).toNat ≤ 150 ∧ payload.length ≤ 255
          ∧ body.map (·.data) = bodyOnLine kind payload

/-- What LINE_ACTIVITY does on a HUNT or UP line (R149 to R151, R153), by the receiver phase. SEEKING, a delimiter opens a
frame and any other byte is discarded. IN_FRAME, a byte that is no delimiter joins the body within the limit; a delimiter
after an empty body is fill and opens a new frame; after any other body the frame is judged, and the byte has the effect
of the frame as one command: BAD_FRAME, HUNT_FRAME with a good frame, or in UP the command of its kind. So a frame
received byte by byte has the effect of the frame as one event, for every kind code (that the two levels of commands agree
is log entry 8). A byte with a framing error is no delimiter. -/
def Obligations.BytesMakeTheFrame : Prop :=
  ∀ (s : State) (ch : Channel) (b : RxByte), s.resetPin = .high → (s.ports.get ch).line ≠ .down → s.outbox = [] →
    let p := s.ports.get ch
    let isDelimiter := b.data = 0xC5#8 ∧ b.framingError = false
    let withReceiver := fun r : Receiver => ({ s with ports := s.ports.set ch { p with receiver := r } } : State)
    let opened := withReceiver (.inFrame [] s.timer.tickCount)
    (p.receiver = .seeking →
        (isDelimiter → exec (.lineActivity ch b) s = .next opened)
          ∧ (¬ isDelimiter → exec (.lineActivity ch b) s = .next s))
      ∧ ∀ body start, p.receiver = .inFrame body start →
        (¬ isDelimiter → body.length < 299 →
            exec (.lineActivity ch b) s = .next (withReceiver (.inFrame (body ++ [b]) start)))
          ∧ (isDelimiter → body = [] → exec (.lineActivity ch b) s = .next opened)
          ∧ (isDelimiter → body ≠ [] →
            (judge body start s.timer.tickCount = .bad → exec (.lineActivity ch b) s = exec (.badFrame ch) s)
              ∧ ∀ kind payload, judge body start s.timer.tickCount = .good kind payload →
                exec (.lineActivity ch b) s =
                  if p.line = .up then exec (frameCommand ch kind payload) s else exec (.huntFrame ch true) s)
          ∧ (body = [] → ∀ kind payload, deliverable kind payload = true → (s.timer.tickCount - start).toNat ≤ 150 →
            runAll ((bodyOnLine kind payload ++ [0xC5#8]).map fun x => .lineActivity ch ⟨x, false⟩) s =
              if p.line = .up then exec (frameCommand ch kind payload) s else exec (.huntFrame ch true) s)

/-- A valid record decodes from its 17 bytes to itself, every field at every value of its range (R1, R174). Bytes decode
to a record exactly when there are 17 of them and bits 4 to 7 of the member set byte are 0, field by field in the order of
the table, most significant byte first. A record is valid exactly when each field lies in its range (R1), both quorums are
more than half the members and no more than the members, D is at most three times P, and warn_level is below exclude_level
(R2). -/
def Obligations.RecordDecodesFromItsEncoding : Prop :=
  (∀ r : GroupRecord, r.valid = true → (encodeRecord r).length = 17 ∧ decodeRecord (encodeRecord r) = some r)
  ∧ (∀ (bytes : List Byte) (r : GroupRecord),
    let set := bytes.getD 0 0
    let byteAt := fun i : Nat => (bytes.getD i 0).toNat
    decodeRecord bytes = some r ↔
      bytes.length = 17 ∧ set.toNat < 16
        ∧ r.members = ⟨set.getLsbD 0, set.getLsbD 1, set.getLsbD 2, set.getLsbD 3⟩
        ∧ r.itemQuorum = byteAt 1 ∧ r.changeQuorum = byteAt 2 ∧ r.period = 256 * byteAt 3 + byteAt 4
        ∧ r.deadlineOffset = 65536 * byteAt 5 + 256 * byteAt 6 + byteAt 7 ∧ r.changeWindow = 256 * byteAt 8 + byteAt 9
        ∧ r.warnLevel = byteAt 10 ∧ r.excludeLevel = byteAt 11 ∧ r.probationRounds = byteAt 12
        ∧ r.holdoffCycles = 256 * byteAt 13 + byteAt 14 ∧ r.safeAfter = byteAt 15 ∧ r.recoverAfter = byteAt 16)
  ∧ ∀ r : GroupRecord,
    let n := (Channel.all.filter fun ch => r.members.get ch).length
    let isIn := fun x low high : Nat => low ≤ x ∧ x ≤ high
    r.valid = true ↔
      isIn n 2 4 ∧ isIn r.itemQuorum 2 4 ∧ isIn r.changeQuorum 2 4 ∧ isIn r.period 500 65535
        ∧ isIn r.deadlineOffset 100 196605 ∧ isIn r.changeWindow 4 1024 ∧ isIn r.warnLevel 1 254
        ∧ isIn r.excludeLevel 1 254 ∧ isIn r.probationRounds 1 255 ∧ isIn r.holdoffCycles 0 65535
        ∧ isIn r.safeAfter 1 255 ∧ isIn r.recoverAfter 1 255
        ∧ n < 2 * r.itemQuorum ∧ r.itemQuorum ≤ n ∧ n < 2 * r.changeQuorum ∧ r.changeQuorum ≤ n
        ∧ r.deadlineOffset ≤ 3 * r.period ∧ r.warnLevel < r.excludeLevel

/-- A schema of 1 to 32 entries decodes from its encoding to itself, every field of every entry at every value
(R3, R174), and bytes that are no such encoding (of another length, with an item count outside 1 to 32, or with an undefined
code) decode to none (R4). The encoding is the item count and seven bytes for each entry: match_mode, signedness, two of
tolerance, fallback, two of safe_value. -/
def Obligations.SchemaDecodesFromItsEncoding : Prop :=
  (∀ items : List SchemaItem, 1 ≤ items.length → items.length ≤ 32 → (∀ e ∈ items, e.tolerance ≤ 65535) →
    (encodeSchema items).length = 1 + 7 * items.length ∧ decodeSchema (encodeSchema items) = some items)
  ∧ (∀ (bytes : List Byte) (items : List SchemaItem), decodeSchema bytes = some items →
    1 ≤ items.length ∧ items.length ≤ 32 ∧ (∀ e ∈ items, e.tolerance ≤ 65535) ∧ bytes = encodeSchema items)
  ∧ ∀ items : List SchemaItem, encodeSchema items =
    BitVec.ofNat 8 items.length :: items.flatMap fun e =>
      [ if e.matchMode = .band then 1 else 0, if e.signedness = .signed then 1 else 0,
        BitVec.ofNat 8 (e.tolerance / 256), BitVec.ofNat 8 e.tolerance, if e.fallback = .safe then 1 else 0,
        e.safeValue.extractLsb' 8 8, e.safeValue.extractLsb' 0 8 ]

/-! ## Membership -/

/-- ANNOUNCE follows the table of R38: the first check that is met refuses it, with nothing else changed, and when none is
met the channel is admitted as R39 lays down. The admission cycle is N, as step 3 of R39 has it, also between the Cycle
Timer's taking of a mark and the Membership Table's (DESIGN CHOICE: log entry 17). -/
def Obligations.AnnounceFollowsItsTable : Prop :=
  ∀ (s : State) (ch : Channel) (p : List Byte), s.resetPin = .high → Sound s → (s.ports.get ch).line = .up →
    ∃ t, exec (.announce ch p) s = .next t ∧
      match firstMet (s.announceTable ch p) with
      | some reason => s.refusedOnly t ch 0x11#8 reason
      | none =>
        let admitted : ChannelState := if p.getD 1 0 = 1 then .candidate else .observer
        let c := ((s.standing.get ch).counters.bump .framesGood)
        (∀ x, t.members.get x =
            if x = ch then
              { state := admitted
                announcement := some
                  { role := if p.getD 1 0 = 1 then .voter else .observer, letter := ch, epoch := field32 p 2
                    digest := field32 p 6, identity := field32 p 10, softwareTag := field32 p 14 }
                holdoff := 0
                probationRun := 0
                admissionCycle := s.timer.running.map (·.nextCycle) }
            else s.members.get x)
          ∧ (∀ x, t.standing.get x =
              if x = ch then { score := 0, counters := { c with admissions := min (c.admissions + 1) 65535 } }
              else s.standing.get x)
          ∧ (∀ x, t.ports.get x =
              if x = ch then (s.heardPort ch x).takeNotice (.admitted admitted) else s.ports.get x)
          ∧ s.keepsAllBut t [.members, .standing, .ports]

/-- LEAVE follows the table of R49: refused, or the channel goes to LINKED with its record, holdoff and score kept and no
notice of its own. One that leaves a voter state has its queue emptied and leaves every arrival set, OPEN rounds that
this completes are sealed, and the group state follows (R50, R51, R73, R80). One that leaves VOTING departs from the
Change Table (R141): the PENDING entries it proposed are voided, counted and reported, it is taken out of the concurrence
sets of the others, each with CONCURRED, and COMMITTED entries stay. -/
def Obligations.LeaveFollowsItsTable : Prop :=
  ∀ (s : State) (ch : Channel) (p : List Byte), s.resetPin = .high → Sound s → (s.ports.get ch).line = .up →
    ∃ t, exec (.leave ch p) s = .next t ∧
      match firstMet (s.leaveTable ch) with
      | some reason => s.refusedOnly t ch 0x12#8 reason
      | none =>
        (∀ x, t.members.get x =
            if x = ch then { s.members.get ch with state := .linked, probationRun := 0 } else s.members.get x)
          ∧ (∀ x, t.standing.get x = s.heardStanding ch x)
          ∧ s.leftBy t ch
          ∧ (∀ x, (s.heardPort ch x).offeredAll (t.ports.get x) (s.leftNotices t ch))
          ∧ s.keepsAllBut t [.members, .standing, .window, .groupState, .changes, .part, .ports]

/-! ## Proposal intake -/

/-- The acceptance span (R62): the 1 to 5 consecutive cycles of the present rounds and, last, the next round number. A
cycle lies in the span exactly when it is one of them, is newer than the span exactly when it is newer than the next round
number, and lies behind the span otherwise. -/
def Obligations.SpanHasThreeClasses : Prop :=
  ∀ (s : State) (next c : Cycle), Sound s → s.window.nextRound = some next →
    let span := s.window.rounds.map (·.cycle) ++ [next]
    1 ≤ span.length ∧ span.length ≤ 5 ∧ span.Nodup
      ∧ (∀ i, i < span.length → span[i]? = some (next - BitVec.ofNat 32 (span.length - 1 - i)))
      ∧ (s.window.spanClass next c = .inside ↔ c ∈ span)
      ∧ (s.window.spanClass next c = .newer ↔ older next c = true)
      ∧ (s.window.spanClass next c = .behind ↔ c ∉ span ∧ older next c = false)

/-- A PROPOSAL that a check of R63 turns away without a weight: only that check's counter and frames_good rise. The
weighted outcomes, late and epoch_wrong, are so for a channel that is not scored (R63, R66). Of the eighteen counters of a
channel, each event raises the one that bears its name, and no other, by one up to 65535 (R107). -/
def Obligations.RejectedProposalIsOnlyCounted : Prop :=
  (∀ c : Counters,
    let up := fun n : Nat => min (n + 1) 65535
    c.bump .framesGood = { c with framesGood := up c.framesGood }
      ∧ c.bump .framesBad = { c with framesBad := up c.framesBad }
      ∧ c.bump .unknownKind = { c with unknownKind := up c.unknownKind }
      ∧ c.bump .proposalsTaken = { c with proposalsTaken := up c.proposalsTaken }
      ∧ c.bump .late = { c with late := up c.late }
      ∧ c.bump .early = { c with early := up c.early }
      ∧ c.bump .epochWrong = { c with epochWrong := up c.epochWrong }
      ∧ c.bump .duplicate = { c with duplicate := up c.duplicate }
      ∧ c.bump .queueFull = { c with queueFull := up c.queueFull }
      ∧ c.bump .notVoter = { c with notVoter := up c.notVoter }
      ∧ c.bump .missingRounds = { c with missingRounds := up c.missingRounds }
      ∧ c.bump .dissentRounds = { c with dissentRounds := up c.dissentRounds }
      ∧ c.bump .abstainRounds = { c with abstainRounds := up c.abstainRounds }
      ∧ c.bump .agreeRounds = { c with agreeRounds := up c.agreeRounds }
      ∧ c.bump .admissions = { c with admissions := up c.admissions }
      ∧ c.bump .exclusions = { c with exclusions := up c.exclusions }
      ∧ c.bump .marksSkipped = { c with marksSkipped := up c.marksSkipped }
      ∧ c.bump .verdictsDropped = { c with verdictsDropped := up c.verdictsDropped })
  ∧ ∀ (s : State) (ch : Channel) (p : List Byte) (name : CounterName), s.resetPin = .high → Sound s →
    (s.ports.get ch).line = .up → firstMet (s.proposalTable ch p) = some name →
    ((name ≠ .late ∧ name ≠ .epochWrong) ∨ (s.channelState ch ≠ .probation ∧ s.channelState ch ≠ .voting)) →
    ∃ t, exec (.proposal ch p) s = .next t
      ∧ (∀ x, t.standing.get x =
          if x = ch then { s.heardStanding ch x with counters := (s.heardStanding ch x).counters.bump name }
          else s.standing.get x)
      ∧ (∀ x, t.ports.get x = s.heardPort ch x)
      ∧ s.keepsAllBut t [.standing, .ports]

/-- A late or mismatched PROPOSAL of a PROBATION or VOTING channel (R66, R101, R102, R104): its counter rises, and its
score rises by 4 or by 8. Below exclude_level nothing else happens but ADVISORY at the crossing of warn_level; at or
above it the channel is EXCLUDED in the same event, keeps the score that reached the level, gets its holdoff, and has its
queue emptied (R46, R80), which is broadcast and handed on (R50, R51, R141). -/
def Obligations.LateOrMismatchedProposalIsWeighed : Prop :=
  ∀ (s : State) (ch : Channel) (p : List Byte) (name : CounterName) (cfg : Configuration), s.resetPin = .high →
    Sound s → (s.channelState ch = .probation ∨ s.channelState ch = .voting) → s.store.installed = some cfg →
    firstMet (s.proposalTable ch p) = some name → (name = .late ∨ name = .epochWrong) →
    let before := (s.standing.get ch).score
    let score := min (before + (if name = .late then 4 else 8)) 255
    let c := ((s.standing.get ch).counters.bump .framesGood).bump name
    ∃ t, exec (.proposal ch p) s = .next t
      ∧ (∀ x, x ≠ ch → t.standing.get x = s.standing.get x)
      ∧ (score < cfg.record.excludeLevel →
        t.standing.get ch = { score, counters := c }
          ∧ (∀ x, t.ports.get x =
              if x = ch ∧ before < cfg.record.warnLevel ∧ cfg.record.warnLevel ≤ score then
                (s.heardPort ch x).takeNotice (.advisory score)
              else s.heardPort ch x)
          ∧ s.keepsAllBut t [.standing, .ports])
      ∧ (cfg.record.excludeLevel ≤ score →
        t.standing.get ch = { score, counters := { c with exclusions := min (c.exclusions + 1) 65535 } }
          ∧ s.scoreExcluded t ch
          ∧ (∀ x, (s.heardPort ch x).offeredAll (t.ports.get x) (.excluded ch .score :: s.leftNotices t ch))
          ∧ s.keepsAllBut t [.standing, .members, .window, .groupState, .changes, .part, .ports])

/-- A PROPOSAL that passes every check of R63 (R65, R70, R71): it joins the end of its channel's queue with its items read
under the abstain map, the channel joins the arrival set of the round when that is present, and that round alone is sealed
ALL_IN when it is then complete. Fields of several bytes are read most significant byte first (R173). -/
def Obligations.TakenProposalIsQueued : Prop :=
  (∀ (p : List Byte) (i : Nat),
    let byteAt := fun k : Nat => (p.getD (i + k) 0).toNat
    (i + 1 ≤ p.length → field p i 1 = byteAt 0) ∧ (i + 2 ≤ p.length → field p i 2 = 256 * byteAt 0 + byteAt 1)
      ∧ (i + 4 ≤ p.length →
        (field32 p i).toNat = 16777216 * byteAt 0 + 65536 * byteAt 1 + 256 * byteAt 2 + byteAt 3))
  ∧ ∀ (s : State) (ch : Channel) (p : List Byte), s.resetPin = .high → Sound s → (s.ports.get ch).line = .up →
    firstMet (s.proposalTable ch p) = none →
    ∃ t items, exec (.proposal ch p) s = .next t
      ∧ items.length = field p 8 1
      ∧ (∀ i, i < field p 8 1 →
          items.getD i none =
            (if (field32 p 9).getLsbD i then none else some (BitVec.ofNat 16 (field p (13 + 2 * i) 2))))
      ∧ (∀ x, t.window.queues.get x =
          if x = ch then s.window.queues.get x ++ [⟨field32 p 0, field32 p 4, field p 8 1, items⟩]
          else s.window.queues.get x)
      ∧ t.window.rounds =
          (s.window.rounds.map fun r =>
            if r.cycle = field32 p 0 then Round.checked s.votingSet { r with arrival := r.arrival.set ch true } else r)
      ∧ t.window.nextRound = s.window.nextRound
      ∧ (∀ x, t.standing.get x =
          if x = ch then
            { s.heardStanding ch x with counters := { (s.heardStanding ch x).counters with
                proposalsTaken := min ((s.standing.get ch).counters.proposalsTaken + 1) 65535 } }
          else s.standing.get x)
      ∧ (∀ x, t.ports.get x = s.heardPort ch x)
      ∧ s.keepsAllBut t [.window, .standing, .ports]

/-! ## Quorum changes -/

/-- CHANGE follows the table of R129. One that a check meets is refused with that check's reason: no entry, no ticket, and
nothing counted but the good frame. One that passes creates a PENDING entry with the next ticket and its proposer as the
one concurrence (R131): it expires change_window cycles after N, or for FOUND, 2,000,000 ticks after this one;
CHANGE_PENDING is offered to every UP port. The payload of check 5 is, for FOUND a valid record and then a valid schema, for
GROUP a valid record alone, for SCHEMA a valid schema alone, for PARDON the letter of one installed member, and for DISSOLVE
nothing; bytes that are none of these fail it (R130; what a record and a schema decode from: RecordDecodesFromItsEncoding
and SchemaDecodesFromItsEncoding). -/
def Obligations.ChangeFollowsItsTable : Prop :=
  (∀ (kind : ChangeKind) (installed : ChannelSet) (bytes : List Byte) (x : Payload),
    let isRecord := fun (b : List Byte) (r : GroupRecord) => decodeRecord b = some r ∧ r.valid = true
    decodePayload kind installed bytes = some x ↔
      match x with
      | .found r items => kind = .found ∧ isRecord (bytes.take 17) r ∧ decodeSchema (bytes.drop 17) = some items
      | .group r => kind = .group ∧ isRecord bytes r
      | .schema items => kind = .schema ∧ decodeSchema bytes = some items
      | .pardon ch => kind = .pardon ∧ installed.get ch = true
          ∧ bytes = [match ch with | .a => 0 | .b => 1 | .c => 2 | .d => 3]
      | .dissolve => kind = .dissolve ∧ bytes = [])
  ∧ (∀ (bytes : List Byte) (r : GroupRecord),
    validRecord bytes = some r ↔ decodeRecord bytes = some r ∧ r.valid = true)
  ∧ (∀ b : Byte, changeKindOfCode b =
    match b.toNat with
    | 1 => some .found | 2 => some .group | 3 => some .schema | 4 => some .pardon | 5 => some .dissolve | _ => none)
  ∧ (∀ (s : State) (cfg : Configuration), s.store.installed = some cfg → s.installedMembers = cfg.record.members)
  ∧ ∀ (s : State) (ch : Channel) (p : List Byte), s.resetPin = .high → Sound s → (s.ports.get ch).line = .up →
    ∃ t, exec (.change ch p) s = .next t ∧
      match firstMet (s.changeTable ch p) with
      | some reason => s.refusedOnly t ch 0x14#8 reason
      | none =>
        ∃ entry kind, changeKindOfCode (p.getD 0 0) = some kind
          ∧ decodePayload kind s.installedMembers (p.drop 9) = some entry.payload
          ∧ t.changes = { entries := s.changes.entries ++ [entry], ticketCounter := s.changes.nextTicket }
          ∧ entry.ticket = s.changes.nextTicket ∧ entry.proposer = ch ∧ entry.baseEpoch = field32 p 1
          ∧ entry.payloadDigest = field32 p 5 ∧ entry.state = .pending
          ∧ (∀ x, entry.concurrence.get x = decide (x = ch))
          ∧ (kind = .found → entry.expiry = none ∧ t.timer = { s.timer with
              foundingExpiries := s.timer.foundingExpiries ++ [⟨entry.ticket, s.timer.tickCount + 2000000#32⟩] })
          ∧ (kind ≠ .found → t.timer = s.timer ∧ ∃ run cfg, s.timer.running = some run ∧ s.store.current = some cfg
              ∧ entry.expiry = some (run.nextCycle + BitVec.ofNat 32 cfg.record.changeWindow))
          ∧ (∀ x, t.standing.get x = s.heardStanding ch x)
          ∧ (∀ x, t.ports.get x = (s.heardPort ch x).offered
              (.changePending entry.ticket kind ch entry.payloadDigest entry.expiry))
          ∧ s.keepsAllBut t [.changes, .timer, .standing, .ports]

/-- The next ticket (R132): one more than the counter with 1 after 255, passing over the ticket of the entry present; it
is never 0 and never in use. -/
def Obligations.TicketsRollAndAreDistinct : Prop :=
  ∀ t : ChangeTable, t.entries.length ≤ 1 →
    let first : Byte := if t.ticketCounter = 255#8 then 1#8 else t.ticketCounter + 1#8
    t.nextTicket ≠ 0#8 ∧ (∀ e ∈ t.entries, e.ticket ≠ t.nextTicket)
      ∧ ((∀ e ∈ t.entries, e.ticket ≠ first) → t.nextTicket = first)
      ∧ ((∃ e ∈ t.entries, e.ticket = first) → t.nextTicket = if first = 255#8 then 1#8 else first + 1#8)

/-- CONCUR follows the table of R133. One that a check meets is refused with that check's reason and leaves the entry as it
was. One that passes and does not complete its entry joins the concurrence set of that entry alone, and CONCURRED with
the new count is offered to every UP port. -/
def Obligations.ConcurFollowsItsTable : Prop :=
  ∀ (s : State) (ch : Channel) (p : List Byte), s.resetPin = .high → Sound s → (s.ports.get ch).line = .up →
    match firstMet (s.concurTable ch p) with
    | some reason => ∃ t, exec (.concur ch p) s = .next t ∧ s.refusedOnly t ch 0x15#8 reason
    | none =>
      ∃ e ∈ s.changes.entries, e.ticket = p.getD 0 0 ∧
        let e' := { e with concurrence := e.concurrence.set ch true }
        (e'.quorumMet s.store.installed = false →
          ∃ t, exec (.concur ch p) s = .next t
            ∧ t.changes = { s.changes with
                entries := s.changes.entries.map fun x => if x.ticket = e.ticket then e' else x }
            ∧ (∀ x, t.standing.get x = s.heardStanding ch x)
            ∧ (∀ x, t.ports.get x = (s.heardPort ch x).offered
                (.concurred e.ticket (Channel.all.filter fun o => o = ch || e.concurrence.get o).length))
            ∧ s.keepsAllBut t [.changes, .standing, .ports])

/-- The commit test (R134), in a group and in none: a FOUND entry commits when its concurrence set equals the member set
proposed, and so not before every member proposed has concurred; an entry of another kind when a configuration is
installed and the set holds at least its Qc channels. -/
def Obligations.CommitTestReadsTheQuorum : Prop :=
  ∀ (e : ChangeEntry) (installed : Option Configuration),
    (e.quorumMet installed = true ↔
      match e.payload with
      | .found r _ => ∀ ch, e.concurrence.get ch = r.members.get ch
      | .group _ | .schema _ | .pardon _ | .dissolve =>
        ∃ cfg, installed = some cfg
          ∧ cfg.record.changeQuorum ≤ (Channel.all.filter fun ch => e.concurrence.get ch).length)

/-- A CONCUR that completes a GROUP, SCHEMA or PARDON entry commits it in the same event (R5, R6, R9, R135, R136): the
awaiting slot holds the configuration it produces with the next epoch and its digest, from cycle N + 1 on; the entry is
COMMITTED alone in the table, the other one is voided and counted; the installed configuration stays. Every UP port is
offered CONCURRED, CHANGE_VOIDED where an entry is superseded, and CHANGE_COMMITTED, in that order. -/
def Obligations.ConcurCommitsChange : Prop :=
  ∀ (s : State) (ch : Channel) (p : List Byte) (e : ChangeEntry) (cfg : Configuration) (run : RunningTimer),
    s.resetPin = .high → Sound s → firstMet (s.concurTable ch p) = none →
    e ∈ s.changes.entries → e.ticket = p.getD 0 0 → s.store.installed = some cfg → s.timer.running = some run →
    (e.payload ≠ .dissolve) →
    let e' := { e with concurrence := e.concurrence.set ch true }
    e'.quorumMet s.store.installed = true →
    ∃ t w, exec (.concur ch p) s = .next t
      ∧ t.store = { s.store with awaiting := some w }
      ∧ w.config.epoch = cfg.epoch + 1 ∧ w.config.firstCycle = run.nextCycle + 1
      ∧ w.config.digest = crc32 (encodeRecord w.config.record ++ encodeSchema w.config.schema)
      ∧ (match e.payload with
        | .group r => w.kind = .group ∧ w.config.record = r ∧ w.config.schema = cfg.schema
        | .schema items => w.kind = .schema ∧ w.config.record = cfg.record ∧ w.config.schema = items
        | .pardon o => w.kind = .pardon o ∧ w.config.record = cfg.record ∧ w.config.schema = cfg.schema
        | .found _ _ | .dissolve => False)
      ∧ t.changes = { s.changes with
          entries := [{ e' with state := .committed (run.nextCycle + 1), expiry := none }] }
      ∧ t.part = { s.part with
          changesCommitted := min (s.part.changesCommitted + 1) 65535
          changesVoided := min (s.part.changesVoided + (s.changes.entries.length - 1)) 65535 }
      ∧ (∀ x, t.standing.get x = s.heardStanding ch x)
      ∧ (∀ x, t.ports.get x =
          (s.commitNotices e.ticket (ChannelSet.card e'.concurrence) .superseded
            (.changeCommitted e.ticket w.config.epoch w.config.digest (some w.config.firstCycle))).foldl
              Port.offered (s.heardPort ch x))
      ∧ s.keepsAllBut t [.store, .changes, .part, .standing, .ports]

/-- A CONCUR that completes a FOUND entry creates the group in the same event (R9, R27, R52, R81, R118, R137): epoch 1
from cycle 0, the timer running with mark 0 one period ahead, the group STALLED, the output SAFE, the table empty; the
channels stay LINKED or DETACHED. Every UP port is offered CONCURRED, CHANGE_VOIDED where an entry is superseded, and
CHANGE_COMMITTED, in that order, and after them GROUP_STATE and OUTPUT_STATE. That the superseded entry is counted is R108
and R137 (log entry 18). -/
def Obligations.ConcurFoundsTheGroup : Prop :=
  ∀ (s : State) (ch : Channel) (p : List Byte) (e : ChangeEntry) (r : GroupRecord) (items : List SchemaItem),
    s.resetPin = .high → Sound s → firstMet (s.concurTable ch p) = none →
    e ∈ s.changes.entries → e.ticket = p.getD 0 0 → e.payload = .found r items →
    (∀ x, (e.concurrence.set ch true).get x = r.members.get x) →
    let digest := crc32 (encodeRecord r ++ encodeSchema items)
    ∃ t, exec (.concur ch p) s = .next t
      ∧ t.store = { s.store with
          installed := some { record := r, schema := items, epoch := 1, digest, firstCycle := 0 }
          retainedNextCycle := some 0 }
      ∧ t.timer = { s.timer with
          running := some
            { nextCycle := 0, nextMark := s.timer.tickCount + BitVec.ofNat 32 r.period
              period := r.period, deadlineOffset := r.deadlineOffset }
          foundingExpiries := [] }
      ∧ t.window = { s.window with nextRound := some 0 }
      ∧ t.groupState = .stalled
      ∧ t.output = { s.output with state := .safe, voidRun := 0, goodRun := 0, safeN := .low }
      ∧ t.changes = { s.changes with entries := [] }
      ∧ t.part = { s.part with
          changesCommitted := min (s.part.changesCommitted + 1) 65535
          changesVoided := min (s.part.changesVoided + (s.changes.entries.length - 1)) 65535 }
      ∧ (∀ x, t.standing.get x = s.heardStanding ch x)
      ∧ (∀ x, Port.offeredAll
          ((s.commitNotices e.ticket (ChannelSet.card r.members) .superseded
            (.changeCommitted e.ticket 1 digest (some 0))).foldl Port.offered (s.heardPort ch x))
          (t.ports.get x) [.groupState .stalled, .outputState .safe])
      ∧ s.keepsAllBut t [.store, .timer, .window, .groupState, .output, .changes, .part, .standing, .ports]

/-- A CONCUR that completes a DISSOLVE entry ends the group in the same event (R19, R30, R56, R79, R119, R138, R169). Every
UP port is offered CONCURRED, CHANGE_VOIDED with DISSOLVED for another entry, and CHANGE_COMMITTED, in that order, and
after them GROUP_STATE and OUTPUT_STATE. A mark on its way is gone, its blocks having nothing to do with it (R30; log
entry 7, DEDUCED); the discarded frames are counted in output_overruns (R108, R119; log entry 18). -/
def Obligations.ConcurDissolvesTheGroup : Prop :=
  ∀ (s : State) (ch : Channel) (p : List Byte) (e : ChangeEntry), s.resetPin = .high → Sound s →
    firstMet (s.concurTable ch p) = none → e ∈ s.changes.entries → e.ticket = p.getD 0 0 → e.payload = .dissolve →
    let e' := { e with concurrence := e.concurrence.set ch true }
    e'.quorumMet s.store.installed = true →
    ∃ t, exec (.concur ch p) s = .next t
      ∧ t.store = { installed := none, awaiting := none, retained := [], items := List.replicate 32 none
                    schemaBoundary := none, restartCause := .dissolve, retainedNextCycle := none }
      ∧ t.timer = { tickCount := s.timer.tickCount, running := none, foundingExpiries := [], offers := [] }
      ∧ (∀ x, t.window.queues.get x = []) ∧ t.window.rounds = [] ∧ t.window.nextRound = none
      ∧ (∀ x, t.members.get x =
          { state := if (s.members.get x).state = .detached then .detached else .linked, announcement := none
            holdoff := 0, probationRun := 0, admissionCycle := none })
      ∧ t.groupState = .empty
      ∧ (∀ x, t.standing.get x = { s.heardStanding ch x with score := 0 })
      ∧ t.output = { s.output with state := .inactive, voidRun := 0, goodRun := 0, queue := [], safeN := .low }
      ∧ t.part = { s.part with
          changesCommitted := min (s.part.changesCommitted + 1) 65535
          changesVoided := min (s.part.changesVoided + (s.changes.entries.length - 1)) 65535
          outputOverruns := min (s.part.outputOverruns + s.output.queue.length) 65535 }
      ∧ t.changes = { s.changes with entries := [] }
      ∧ t.history = []
      ∧ (∀ x, Port.offeredAll
          ((s.commitNotices e.ticket (ChannelSet.card e'.concurrence) .dissolved
            (.changeCommitted e.ticket 0 0 none)).foldl Port.offered (s.heardPort ch x))
          (t.ports.get x) [.groupState .empty, .outputState .inactive])
      ∧ t.resetPin = s.resetPin ∧ t.pending = s.pending ∧ t.outbox = []

/-- RETRACT follows the table of R140: refused, or the entry is removed with its founding expiry, CHANGE_VOIDED with
RETRACTED is offered to every UP port, and the void is counted. -/
def Obligations.RetractFollowsItsTable : Prop :=
  ∀ (s : State) (ch : Channel) (p : List Byte), s.resetPin = .high → Sound s → (s.ports.get ch).line = .up →
    ∃ t, exec (.retract ch p) s = .next t ∧
      match firstMet (s.retractTable ch p) with
      | some reason => s.refusedOnly t ch 0x16#8 reason
      | none =>
        t.changes = { s.changes with entries := s.changes.entries.filter fun e => e.ticket != p.getD 0 0 }
          ∧ t.timer = { s.timer with
              foundingExpiries := s.timer.foundingExpiries.filter fun e => e.ticket != p.getD 0 0 }
          ∧ t.part = { s.part with changesVoided := min (s.part.changesVoided + 1) 65535 }
          ∧ (∀ x, t.standing.get x = s.heardStanding ch x)
          ∧ (∀ x, t.ports.get x = (s.heardPort ch x).offered (.changeVoided (p.getD 0 0) .retracted))
          ∧ s.keepsAllBut t [.changes, .timer, .part, .standing, .ports]

/-! ## Reading the part -/

/-- READ follows the table of R161. One that a check meets is refused and clears nothing (R110); one that passes leaves a
REPLY with the view's snapshot in the reader's slot, and with CLEAR the reader's eighteen counters are 0 after it (R109,
R162). -/
def Obligations.ReadFollowsItsTable : Prop :=
  ∀ (s : State) (ch : Channel) (p : List Byte), s.resetPin = .high → s.outbox = [] → (s.ports.get ch).line = .up →
    ∃ t, exec (.read ch p) s = .next t ∧
      match firstMet (s.readTable ch p) with
      | some reason => s.refusedOnly t ch 0x17#8 reason
      | none =>
        ∃ view, viewCode view = p.getD 0 0
          ∧ (let shown : State := { s with standing := s.standing.set ch (s.heardStanding ch ch) }
            ∀ x, t.ports.get x =
              if x = ch then
                { s.heardPort ch x with
                  replySlot := some
                    { view, argument := p.getD 1 0, currentEpoch := s.store.currentEpoch
                      snapshot := shown.snapshot ⟨view, p.getD 1 0, p.getD 2 0 == 1⟩ } }
              else s.ports.get x)
          ∧ (∀ x, t.standing.get x =
              if x = ch ∧ p.getD 2 0 = 1 then { s.standing.get x with counters := Counters.zero }
              else s.heardStanding ch x)
          ∧ s.keepsAllBut t [.ports, .standing]

/-- What the snapshot of each view shows (R163 to R167, R170). GROUP shows the installed configuration beside the current
one, with the change that waits, the states, the runs, the timer and the part-wide counters; the others the entry of the
channel named, the record at the index, and of the installed schema and the item states up to 16 entries from the first
item on, each with its item number, or none while the group is EMPTY; PENDING shows every entry in order, with its expiry
cycle, the ticks to its founding expiry, or its activation cycle. -/
def Obligations.SnapshotShowsTheView : Prop :=
  ∀ (s : State) (argument : Byte) (clear : Bool),
    (∃ v, s.snapshot ⟨.group, argument, clear⟩ = .group v
      ∧ v.restartCause = s.store.restartCause ∧ v.groupState = s.groupState
      ∧ (∀ ch, v.states.get ch = s.channelState ch)
      ∧ v.outputState = s.output.state ∧ v.voidRun = s.output.voidRun ∧ v.goodRun = s.output.goodRun
      ∧ v.part = s.part
      ∧ v.timer = s.timer.running.map (fun run => (run.nextCycle, run.period, run.deadlineOffset))
      ∧ (s.store.installed = none → v.record = none ∧ v.installedEpoch = 0 ∧ v.installedDigest = 0)
      ∧ (∀ cfg, s.store.installed = some cfg →
          v.record = some cfg.record ∧ v.installedEpoch = cfg.epoch ∧ v.installedDigest = cfg.digest)
      ∧ (s.store.awaiting = none →
          v.awaiting = none ∧ v.currentEpoch = v.installedEpoch ∧ v.currentDigest = v.installedDigest)
      ∧ ∀ w, s.store.awaiting = some w → v.currentEpoch = w.config.epoch ∧ v.currentDigest = w.config.digest
          ∧ v.awaiting = some
            (match w.kind with
              | .group => (.group, w.config.firstCycle)
              | .schema => (.schema, w.config.firstCycle)
              | .pardon _ => (.pardon, w.config.firstCycle)))
      ∧ (∀ ch, argument = channelCode ch →
        s.snapshot ⟨.channel, argument, clear⟩ = .channel ⟨s.members.get ch, s.standing.get ch⟩)
      ∧ s.snapshot ⟨.history, argument, clear⟩ =
          .history ⟨s.history.length, s.part.decisions, s.history[argument.toNat]?⟩
      ∧ (∃ v, s.snapshot ⟨.schema, argument, clear⟩ = .schema v
        ∧ (s.store.installed = none → v = ⟨0, 0, []⟩)
        ∧ ∀ cfg, s.store.installed = some cfg → v.itemCount = cfg.schema.length ∧ v.epoch = cfg.epoch
          ∧ ∀ i, v.entries[i]? =
              if i < 16 then (cfg.schema[argument.toNat + i]?).map fun e => (argument.toNat + i, e) else none)
      ∧ (∃ v, s.snapshot ⟨.items, argument, clear⟩ = .items v ∧ v.boundary = s.store.schemaBoundary
        ∧ (s.store.installed = none → v.itemCount = 0 ∧ v.epoch = 0 ∧ v.entries = [])
        ∧ ∀ cfg, s.store.installed = some cfg → v.itemCount = cfg.schema.length ∧ v.epoch = cfg.epoch
          ∧ ∀ i, v.entries[i]? =
              if i < 16 ∧ argument.toNat + i < cfg.schema.length then
                (s.store.items[argument.toNat + i]?).map fun e => (argument.toNat + i, e)
              else none)
      ∧ ∃ v, s.snapshot ⟨.pending, argument, clear⟩ = .pending v ∧ v.ticketCounter = s.changes.ticketCounter
        ∧ v.entries.length = s.changes.entries.length
        ∧ ∀ (i : Nat) (e : ChangeEntry) (x : PendingEntry), s.changes.entries[i]? = some e → v.entries[i]? = some x →
          x.ticket = e.ticket ∧ x.kind = e.payload.kind ∧ x.proposer = e.proposer ∧ x.baseEpoch = e.baseEpoch
            ∧ x.payloadDigest = e.payloadDigest ∧ x.concurrence = e.concurrence
            ∧ (∀ a, e.state = .committed a → x.committed = true ∧ x.time = .activates a)
            ∧ (e.state = .pending → x.committed = false
              ∧ (∀ c, e.expiry = some c → x.time = .expires c)
              ∧ (e.expiry = none → ∀ f, s.timer.foundingExpiries.find? (fun f => f.ticket == e.ticket) = some f →
                x.time = .ticksLeft (f.tick - s.timer.tickCount)))

/-! ## Transmission -/

/-- The transmitter's choice, at the end of a frame or when it is free (R155, R157, R158): the MARK, else the oldest
notice, else the oldest VERDICT, else the REPLY, else fill; the last notice taken with notices lost leaves LOST in the
queue with their count. A transmitter that abandoned a frame is free to choose (DEDUCED: log entry 15). With no frame in
transmission its end changes nothing, and neither does the choice of a transmitter that is not free (DESIGN CHOICE: log
entry 6). -/
def Obligations.TransmitterTakesByPriority : Prop :=
  ∀ (s : State) (ch : Channel) (c : Instr),
    let p := s.ports.get ch
    (((c = .transmissionEnd ch ∧ ∃ f, p.transmitter = .frame f)
        ∨ (c = .transmitChoice ch ∧ (p.transmitter = .fill ∨ p.transmitter = .abandoned))) →
      ∃ q, exec c s = .next { s with ports := s.ports.set ch q }
        ∧ (∀ f, p.markSlot = some f → q = { p with markSlot := none, transmitter := .frame (.mark f) })
        ∧ (p.markSlot = none → ∀ n rest, p.notices = n :: rest →
            q = { p with
              transmitter := .frame (.notice n)
              notices := if rest = [] ∧ 0 < p.lostNotices then [.lost p.lostNotices] else rest
              lostNotices := if rest = [] then 0 else p.lostNotices })
        ∧ (p.markSlot = none → p.notices = [] →
            (∀ v rest, p.verdicts = v :: rest → q = { p with verdicts := rest, transmitter := .frame (.verdict v) })
              ∧ (p.verdicts = [] →
                (∀ r, p.replySlot = some r → q = { p with replySlot := none, transmitter := .frame (.reply r) })
                  ∧ (p.replySlot = none → q = { p with transmitter := .fill }))))
      ∧ ((∀ f, p.transmitter ≠ .frame f) → exec (.transmissionEnd ch) s = .next s)
      ∧ (p.transmitter = .silent ∨ (∃ f, p.transmitter = .frame f) → exec (.transmitChoice ch) s = .next s)

/-- The end of a DECISION's transmission (R123): the oldest waiting frame is taken from the queue and sent, and with an
empty queue the link goes idle. With no frame in transmission the command changes nothing (DESIGN CHOICE: log entry 6). -/
def Obligations.OutputLinkSendsOldestFirst : Prop :=
  ∀ s : State,
    ((∀ f, s.output.link ≠ .frame f) → exec .outputTransmissionEnd s = .next s)
      ∧ ∀ f, s.output.link = .frame f →
        (s.output.queue = [] →
          exec .outputTransmissionEnd s = .next { s with output := { s.output with link := .fill } })
          ∧ ∀ d rest, s.output.queue = d :: rest →
            exec .outputTransmissionEnd s = .next
              { s with output := { s.output with link := .frame d, queue := rest } }

/-! ## The close of a round -/

/-- CLOSE of the oldest round when it is SEALED (R74, R75, R108, R115, R121, R122, R126, R168): one decision, of the
round's cycle and of the configuration in force for it, with the outcome and the items that the vote of the counted
entries gives (R82 to R90), goes to the output link or its queue of two, where the older waiting frame gives way and is
counted, and into the history; the output has moved on the round's outcome, and in SAFE every item carries its
safe_value. The round and every entry for its cycle are gone, excluded channels have left queues, arrival sets and Change
Table (R50, R141), OPEN rounds that this completes are sealed, and the close's notices are offered to every UP port;
that several departures of one close come in letter order, which decides whether CONCURRED is among them, is a DESIGN
CHOICE (log entry 16). With the oldest round OPEN, or none present, nothing is closed. -/
def Obligations.CloseProducesOneDecision : Prop :=
  ∀ s : State,
    ((∀ r rest, s.window.rounds = r :: rest → r.sealedBy = none) → exec .close s = .next s)
      ∧ ∀ (r : Round) (rest : List Round) (sl : Seal) (cfg installed : Configuration), Sound s →
        s.window.rounds = r :: rest → r.sealedBy = some sl → s.store.inForce r.cycle = some cfg →
        s.store.installed = some installed →
        ∃ t d, exec .close s = .next t
          ∧ t.history = (d :: s.history).take 16
          ∧ d.cycle = r.cycle ∧ d.epoch = cfg.epoch ∧ d.outputState = t.output.state
          ∧ d.cause = (match sl.cause with | .allIn => .allIn | .deadline => .deadline)
          ∧ d.outcome = s.outcomeIn r cfg
          ∧ d.items.length = cfg.schema.length
          ∧ (∀ (i : Nat) (item : SchemaItem), cfg.schema[i]? = some item →
              d.items[i]? = some
                (if t.output.state = .safe then { s.itemIn r cfg i item with value := item.safeValue }
                else s.itemIn r cfg i item))
          ∧ (⟨t.output.state, t.output.voidRun, t.output.goodRun⟩ : OutputRuns) =
              OutputRuns.after ⟨s.output.state, s.output.voidRun, s.output.goodRun⟩ d.outcome
                installed.record.safeAfter installed.record.recoverAfter
          ∧ t.output.safeN = (if t.output.state = .live ∨ t.output.state = .holdover then .high else .low)
          ∧ (let frame : Decision := ⟨d.cycle, d.epoch, d.outputState, d.items⟩
            (s.output.link = .fill → t.output.link = .frame frame ∧ t.output.queue = []
                ∧ t.part.outputOverruns = s.part.outputOverruns)
              ∧ (s.output.link ≠ .fill → t.output.link = s.output.link
                ∧ (s.output.queue.length ≤ 1 → t.output.queue = s.output.queue ++ [frame]
                  ∧ t.part.outputOverruns = s.part.outputOverruns)
                ∧ (s.output.queue.length = 2 → t.output.queue = s.output.queue.tail ++ [frame]
                  ∧ t.part.outputOverruns = min (s.part.outputOverruns + 1) 65535)))
          ∧ t.part.decisions = min (s.part.decisions + 1) 4294967295
          ∧ t.part.forcedCloses = s.part.forcedCloses ∧ t.part.changesCommitted = s.part.changesCommitted
          ∧ t.window.rounds =
              (rest.map fun x => Round.checked t.votingSet
                { x with arrival := PerChannel.build fun ch => x.arrival.get ch && !(s.excludesNow t ch) })
          ∧ t.window.nextRound = s.window.nextRound
          ∧ (∀ ch, t.window.queues.get ch =
              if s.excludesNow t ch then [] else (s.window.queues.get ch).filter fun e => e.cycle != r.cycle)
          ∧ t.groupState = t.derivedGroupState
          ∧ s.changesNow t ((s.votersExcluded t).foldl ChangeTable.without s.changes)
          ∧ (∀ ch, s.toldAtClose t installed ch)
          ∧ s.keepsAllBut t [.store, .members, .groupState, .window, .standing, .part, .changes, .output, .history,
              .ports]

/-- What a close tells each channel (R92, R94 to R96, R124 to R126): each channel that was PROBATION, VOTING or OBSERVER has
one more VERDICT waiting in its port's queue of four, the oldest giving way and being counted; it agrees with the history
record of the close in every field they share, carries the channel's score after the close, and shows its own status and
its dissent list: a VOTING channel that the round does not count and an OBSERVER have NOT_VOTER and no dissent. No other
channel has a VERDICT. Every UP port is offered the close's notices, PROMOTED, EXCLUDED, ADVISORY, OUTPUT_STATE and
GROUP_STATE among them (of several departures, in letter order: DESIGN CHOICE, log entry 16). -/
def Obligations.CloseTellsEveryRecipient : Prop :=
  ∀ (s : State) (r : Round) (rest : List Round) (cfg installed : Configuration), Sound s →
    s.window.rounds = r :: rest → r.sealedBy ≠ none → s.store.inForce r.cycle = some cfg →
    s.store.installed = some installed →
    ∃ t d, exec .close s = .next t ∧ t.history.head? = some d
      ∧ ∀ ch,
        let isRecipient := s.channelState ch = .probation ∨ s.channelState ch = .voting ∨ s.channelState ch = .observer
        let before := (s.ports.get ch).verdicts
        let dropped := (s.standing.get ch).counters.verdictsDropped
        s.toldAtClose t installed ch
          ∧ (¬ isRecipient → (t.ports.get ch).verdicts = before
            ∧ (t.standing.get ch).counters.verdictsDropped = dropped)
          ∧ (isRecipient → ∃ v,
            (t.ports.get ch).verdicts = (if before.length < 4 then before else before.tail) ++ [v]
              ∧ (t.standing.get ch).counters.verdictsDropped =
                  (if before.length < 4 then dropped else min (dropped + 1) 65535)
              ∧ v.cycle = d.cycle ∧ v.epoch = d.epoch ∧ v.outcome = d.outcome ∧ v.cause = d.cause
              ∧ v.outputState = d.outputState ∧ v.items = d.items ∧ v.score = (t.standing.get ch).score
              ∧ v.ownStatus = s.ownStatusIn r cfg ch
              ∧ v.dissent = (if s.judges r ch then s.dissentIn r cfg ch else []))

/-- How a close weighs the channels (R75, R92, R93, R94, R101, R103): one that is counted or compared and has no entry for
the round is missing, at 8 points; one with an entry is left as it is by a VOID round, and otherwise gains 6 where its
dissent list is not empty, else 1 where it abstains on an accepted item, and else loses 1, with that one counter; every
other channel is neither weighed nor counted. A VOTING channel whose score has then reached exclude_level is EXCLUDED, with
the exclusion counted; a PROBATION channel moves as CloseMovesProbation says, and no other channel moves (R46, R98). -/
def Obligations.CloseWeighsEachClassOnce : Prop :=
  ∀ (s : State) (r : Round) (rest : List Round) (cfg installed : Configuration), Sound s →
    s.window.rounds = r :: rest → r.sealedBy ≠ none → s.store.inForce r.cycle = some cfg →
    s.store.installed = some installed →
    ∃ t d, exec .close s = .next t ∧ t.history.head? = some d
      ∧ ∀ ch,
        let st := s.standing.get ch
        let c := st.counters
        let tt := t.standing.get ch
        let up := fun n : Nat => min (n + 1) 65535
        let hasEntry := ∃ e ∈ s.window.queues.get ch, e.cycle = r.cycle
        let judged := s.judges r ch = true
        let weighed := fun (score : Nat) (counted : Counters) =>
          tt = { score
                 counters := { counted with
                   exclusions := if s.excludesNow t ch then min (c.exclusions + 1) 65535 else c.exclusions
                   verdictsDropped := tt.counters.verdictsDropped } }
        (¬ judged → weighed st.score c)
          ∧ (judged → ¬ hasEntry → weighed (min (st.score + 8) 255) { c with missingRounds := up c.missingRounds })
          ∧ (judged → hasEntry → d.outcome = .void → weighed st.score c)
          ∧ (judged → hasEntry → d.outcome ≠ .void →
            (s.dissentIn r cfg ch ≠ [] → weighed (min (st.score + 6) 255) { c with dissentRounds := up c.dissentRounds })
              ∧ (s.dissentIn r cfg ch = [] → s.abstainsIn r cfg ch = true →
                weighed (min (st.score + 1) 255) { c with abstainRounds := up c.abstainRounds })
              ∧ (s.dissentIn r cfg ch = [] → s.abstainsIn r cfg ch = false →
                weighed (st.score - 1) { c with agreeRounds := up c.agreeRounds }))
          ∧ (s.channelState ch ≠ .probation →
            t.members.get ch =
              if s.channelState ch = .voting ∧ installed.record.excludeLevel ≤ tt.score then
                { s.members.get ch with state := .excluded, probationRun := 0, holdoff := s.currentHoldoff }
              else s.members.get ch)

/-- What a close leaves in the Configuration Store (R11, R13 to R15, R91): a close older than the schema boundary leaves the
table and the boundary as they are; any other clears the boundary, writes each accepted item with the round's cycle, and of
every other entry sets the saturation mark once its distance reaches 255. The decided value is the one the record shows, but
in SAFE, where the record shows safe values. Of the retained configurations exactly those stay that are in force for a
round still present and older than the installed first cycle (log entry 10); everything else of the store stays. -/
def Obligations.CloseWritesAcceptedItems : Prop :=
  ∀ (s : State) (r : Round) (rest : List Round) (cfg installed : Configuration), Sound s →
    s.window.rounds = r :: rest → r.sealedBy ≠ none → s.store.inForce r.cycle = some cfg →
    s.store.installed = some installed →
    ∃ t d, exec .close s = .next t ∧ t.history.head? = some d
      ∧ (∀ b, s.store.schemaBoundary = some b → older r.cycle b = true →
          t.store.items = s.store.items ∧ t.store.schemaBoundary = some b)
      ∧ ((∀ b, s.store.schemaBoundary = some b → older r.cycle b = false) →
        t.store.schemaBoundary = none
          ∧ ∀ i, i < 32 →
            (∀ x, d.items[i]? = some x → x.outcome = .accepted →
                ∃ v, t.store.items.getD i none = some ⟨v, r.cycle, false⟩ ∧ s.decidedIn r cfg i = some v
                  ∧ (t.output.state ≠ .safe → v = x.value))
              ∧ ((∀ x, d.items[i]? = some x → x.outcome ≠ .accepted) →
                t.store.items.getD i none = (s.store.items.getD i none).map fun e =>
                  { e with saturated := e.saturated || decide (255 ≤ (r.cycle - e.acceptanceCycle).toNat) }))
      ∧ t.store.retained.Sublist s.store.retained
      ∧ (∀ c ∈ s.store.retained, c ∈ t.store.retained ↔
          ∃ x ∈ rest, older x.cycle installed.firstCycle = true ∧ retainedFor x.cycle s.store.retained = some c)
      ∧ t.store.installed = s.store.installed ∧ t.store.awaiting = s.store.awaiting
      ∧ t.store.restartCause = s.store.restartCause ∧ t.store.retainedNextCycle = s.store.retainedNextCycle

/-- What a close does to a channel in PROBATION (R44 to R46): excluded when its score has reached exclude_level; otherwise
its run stays for a VOID round and for a round older than its admission cycle, rises for an agreeing round, which promotes
it at the probation_rounds of the configuration in force for the round, and falls to 0 for a disagreeing or missed one. Its
port is offered the close's notices, PROMOTED where it has entered VOTING among them (of several departures, in letter
order: DESIGN CHOICE, log entry 16). -/
def Obligations.CloseMovesProbation : Prop :=
  ∀ (s : State) (r : Round) (rest : List Round) (cfg installed : Configuration) (ch : Channel), Sound s →
    s.window.rounds = r :: rest → r.sealedBy ≠ none → s.store.inForce r.cycle = some cfg →
    s.store.installed = some installed → s.channelState ch = .probation →
    let m := s.members.get ch
    let run := min (m.probationRun + 1) 255
    let isOfItsTime := ∃ a, m.admissionCycle = some a ∧ sameOrNewer r.cycle a = true
    ∃ t d v, exec .close s = .next t ∧ t.history.head? = some d ∧ (t.ports.get ch).verdicts.getLast? = some v
      ∧ v.ownStatus = s.ownStatusIn r cfg ch
      ∧ (v.ownStatus = .shadowAgreed ∨ v.ownStatus = .shadowDissent ∨ v.ownStatus = .missing)
      ∧ s.toldAtClose t installed ch
      ∧ (installed.record.excludeLevel ≤ (t.standing.get ch).score →
        t.members.get ch = { m with state := .excluded, probationRun := 0, holdoff := s.currentHoldoff })
      ∧ ((t.standing.get ch).score < installed.record.excludeLevel →
        (d.outcome = .void ∨ ¬ isOfItsTime → t.members.get ch = m)
          ∧ (d.outcome ≠ .void → isOfItsTime →
            t.members.get ch =
              (if v.ownStatus = .shadowAgreed then
                if cfg.record.probationRounds ≤ run then { m with state := .voting, probationRun := 0 }
                else { m with probationRun := run }
              else { m with probationRun := 0 })))

/-! ## Voting -/

/-- The EXACT vote (R85): a pattern is decided exactly when it is in the value list, its count is at least Qi, and every
other pattern's count is smaller; the values that agree with it are the equal ones. -/
def Obligations.ExactVoteDecidesTheLeader : Prop :=
  ∀ (item : SchemaItem) (quorum : Nat) (values : List Word16) (v : Word16), item.matchMode = .exact →
    (item.vote quorum values = some v ↔
      v ∈ values ∧ quorum ≤ values.count v ∧ ∀ w ∈ values, w ≠ v → values.count w < values.count v)
      ∧ ∀ w, item.agrees v w = true ↔ w = v

/-- The BAND vote (R86, R87): a pattern is decided exactly when it stands at the lower median of the values ordered as the
item reads them, unsigned or in two's complement, and at least Qi of the values agree with it; those agree that lie within
the tolerance of it. -/
def Obligations.BandVoteDecidesTheLowerMedian : Prop :=
  ∀ (item : SchemaItem) (quorum : Nat) (values : List Word16) (v : Word16), item.matchMode = .band →
    let number := fun w : Word16 => if item.signedness = .signed then w.toInt else (w.toNat : Int)
    (item.vote quorum values = some v ↔
      (∃ ordered : List Word16, ordered.Perm values ∧ ordered.Pairwise (fun x y => number x ≤ number y)
          ∧ ordered[(values.length - 1) / 2]? = some v)
        ∧ quorum ≤ (values.filter fun w => item.agrees v w).length)
      ∧ ∀ w, item.agrees v w = true ↔ (number w - number v).natAbs ≤ item.tolerance

/-- A counted set smaller than Qi (R84): the round is VOID, no item is accepted and each takes its fallback (R88, R89), a
held one with its age (R14). No channel dissents; a counted or compared channel is NEUTRAL with an entry and MISSING
without one (R93). -/
def Obligations.TooFewCountedChannelsMakeVoid : Prop :=
  ∀ (cfg : Configuration) (c : Cycle) (cause : CloseCause) (parts : PerChannel Part) (table : List (Option ItemState)),
    cfg.schema ≠ [] → (Channel.all.filter fun ch => (parts.get ch).isCounted).length < cfg.record.itemQuorum →
    let res := evaluate cfg c cause parts table
    res.outcome = .void ∧ res.items.length = cfg.schema.length
      ∧ (∀ (i : Nat) (item : SchemaItem), cfg.schema[i]? = some item →
          res.items[i]? = some
            (match item.fallback, table.getD i none with
            | .hold, some e =>
              ⟨e.value, .held, if e.saturated then 255 else min (c - e.acceptanceCycle).toNat 255⟩
            | _, _ => ⟨item.safeValue, .safed, 255⟩))
      ∧ ∀ ch,
        match parts.get ch with
        | .counted entry | .compared entry =>
          ∃ x, res.channels.get ch = some x ∧ x.dissent = []
            ∧ x.standing = some (if entry = none then .missing else .neutral)
        | .onlooker => ∃ x, res.channels.get ch = some x ∧ x.dissent = [] ∧ x.standing = none
        | .outside => res.channels.get ch = none

/-- The output moves by the rows of its table: in LIVE and HOLDOVER a VOID round lengthens the void run, which takes the
output to HOLDOVER and, at safe_after, to SAFE, and any other round makes it LIVE with the run at 0; in SAFE a COMPLETE round
lengthens the good run, which at recover_after takes it to LIVE, and any other sets that run to 0. So it leaves SAFE for LIVE
only after recover_after consecutive COMPLETE rounds, whatever came before (R115). -/
def Obligations.SafeIsLeftOnlyByCompleteRounds : Prop :=
  (∀ (voidRun goodRun safeAfter recoverAfter : Nat),
    let moves := fun (state : OutputState) (outcome : RoundOutcome) =>
      (⟨state, voidRun, goodRun⟩ : OutputRuns).after outcome safeAfter recoverAfter
    (∀ x, x = .complete ∨ x = .mixed →
        moves .live x = ⟨.live, 0, goodRun⟩ ∧ moves .holdover x = ⟨.live, 0, goodRun⟩)
      ∧ moves .live .void = (if 1 ≥ safeAfter then ⟨.safe, 0, goodRun⟩ else ⟨.holdover, 1, goodRun⟩)
      ∧ moves .holdover .void =
          (if voidRun + 1 ≥ safeAfter then ⟨.safe, 0, goodRun⟩ else ⟨.holdover, voidRun + 1, goodRun⟩)
      ∧ moves .safe .complete =
          (if goodRun + 1 ≥ recoverAfter then ⟨.live, voidRun, 0⟩ else ⟨.safe, voidRun, goodRun + 1⟩)
      ∧ ∀ x, x = .mixed ∨ x = .void → moves .safe x = ⟨.safe, voidRun, 0⟩)
  ∧ ∀ (outcomes : List RoundOutcome) (last : RoundOutcome) (safeAfter recoverAfter : Nat), 1 ≤ recoverAfter →
    let run := fun l : List RoundOutcome =>
      l.foldl (fun o x => o.after x safeAfter recoverAfter) (⟨.safe, 0, 0⟩ : OutputRuns)
    (run outcomes).state = .safe → (run (outcomes ++ [last])).state ≠ .safe →
    (run (outcomes ++ [last])).state = .live ∧ recoverAfter ≤ outcomes.length + 1
      ∧ ∀ x ∈ (outcomes ++ [last]).reverse.take recoverAfter, x = .complete

/-! ## Invariants -/

/-- The part right after power-on with RST_N high and the tick count at 0, as `State.reset` has it (DESIGN CHOICE, unsafe
for claims about this state alone: log entry 1), is sound. -/
def Obligations.ResetStateIsSound : Prop := Sound State.reset

/-- Every step from a sound state leads to a sound one: the capacities and ranges of every block (R33, R58, R60, R100,
R107, R108, R113, R127, R146, R168), the agreement of the blocks on the group (R51), the links (R33, R154, R160), the
members and scores (R34, R102), the run of rounds and the queues (R58, R60, R61, R71), the history (R168) and the change
entries (R127). -/
def Obligations.StepKeepsSound : Prop := ∀ s t : State, Sound s → step s = .next t → Sound t

/-- Every step keeps the links and the Membership Table in agreement (R33, R147, R154, R160, R166): a channel is DETACHED
exactly while its line is not UP, a port that is not UP holds no frame, and every transmitter is silent exactly while
RST_N is low. -/
def Obligations.StepKeepsLinksAgree : Prop :=
  ∀ s t : State, s.linksAgree = true → step s = .next t → t.linksAgree = true
end

