-- ==== Sys2Proof/Laws/State.lean ====
section
/-!
SUPPORT. The small lemmas of the state's updates: a table with one place per channel, and for each named update of
Machine/ what every field of the state is after it. All are true by unfolding, so that no later proof unfolds an update.
-/

namespace Sys2Proof

/-! ## One place per channel -/

theorem Channel.mem_all (ch : Channel) : ch ∈ Channel.all := by cases ch <;> decide

theorem Channel.forall_mem_all {p : Channel → Prop} : (∀ ch ∈ Channel.all, p ch) ↔ ∀ ch, p ch :=
  ⟨fun h ch => h ch ch.mem_all, fun h ch _ => h ch⟩

@[simp] theorem Channel.all_all (p : Channel → Bool) : Channel.all.all p = true ↔ ∀ ch, p ch = true := by
  simp [List.all_eq_true, Channel.mem_all]

namespace PerChannel

variable {α : Type} (t : PerChannel α)

@[simp] theorem get_set_same (ch : Channel) (x : α) : (t.set ch x).get ch = x := by cases ch <;> rfl

theorem get_set_other {ch o : Channel} (h : o ≠ ch) (x : α) : (t.set ch x).get o = t.get o := by
  cases ch <;> cases o <;> first | rfl | exact absurd rfl h

theorem get_set (ch o : Channel) (x : α) : (t.set ch x).get o = if o = ch then x else t.get o := by
  cases ch <;> cases o <;> rfl

@[simp] theorem get_build (f : Channel → α) (ch : Channel) : (PerChannel.build f).get ch = f ch := by cases ch <;> rfl

@[simp] theorem get_fill (x : α) (ch : Channel) : (PerChannel.fill x).get ch = x := by cases ch <;> rfl

/-- Two tables with the same value for every channel are the same table. -/
theorem eq_of_get {t u : PerChannel α} (h : ∀ ch, t.get ch = u.get ch) : t = u := by
  obtain ⟨a, b, c, d⟩ := t
  obtain rfl : a = u.a := h .a
  obtain rfl : b = u.b := h .b
  obtain rfl : c = u.c := h .c
  obtain rfl : d = u.d := h .d
  rfl

@[simp] theorem set_get (ch : Channel) : t.set ch (t.get ch) = t := eq_of_get fun o => by
  rw [get_set]
  split
  · next h => rw [h]
  · rfl

@[simp] theorem set_set (ch : Channel) (x y : α) : (t.set ch x).set ch y = t.set ch y := by cases ch <;> rfl

end PerChannel

/-- The number of channels in a set, counted over the four letters. -/
theorem ChannelSet.card_eq_length (s : ChannelSet) :
    ChannelSet.card s = (Channel.all.filter fun ch => s.get ch).length := by
  obtain ⟨a, b, c, d⟩ := s
  cases a <;> cases b <;> cases c <;> cases d <;> rfl

/-- A set lies within another when each of its channels does. -/
theorem ChannelSet.within_iff (s t : ChannelSet) :
    ChannelSet.within s t = true ↔ ∀ ch, s.get ch = true → t.get ch = true := by
  simp only [ChannelSet.within, Channel.all_all, Bool.or_eq_true, Bool.not_eq_true']
  exact forall_congr' fun ch => by cases s.get ch <;> simp

namespace Machine

variable (s : State)

/-! ## `State.modMember` -/

@[simp] theorem State.modMember_resetPin (ch : Channel) (f : Member → Member) :
    (s.modMember ch f).resetPin = s.resetPin := rfl
@[simp] theorem State.modMember_store (ch : Channel) (f : Member → Member) :
    (s.modMember ch f).store = s.store := rfl
@[simp] theorem State.modMember_timer (ch : Channel) (f : Member → Member) :
    (s.modMember ch f).timer = s.timer := rfl
@[simp] theorem State.modMember_members (ch : Channel) (f : Member → Member) :
    (s.modMember ch f).members =
    s.members.set ch (f (s.members.get ch)) := rfl
@[simp] theorem State.modMember_groupState (ch : Channel) (f : Member → Member) :
    (s.modMember ch f).groupState = s.groupState := rfl
@[simp] theorem State.modMember_window (ch : Channel) (f : Member → Member) :
    (s.modMember ch f).window = s.window := rfl
@[simp] theorem State.modMember_standing (ch : Channel) (f : Member → Member) :
    (s.modMember ch f).standing = s.standing := rfl
@[simp] theorem State.modMember_part (ch : Channel) (f : Member → Member) :
    (s.modMember ch f).part = s.part := rfl
@[simp] theorem State.modMember_changes (ch : Channel) (f : Member → Member) :
    (s.modMember ch f).changes = s.changes := rfl
@[simp] theorem State.modMember_output (ch : Channel) (f : Member → Member) :
    (s.modMember ch f).output = s.output := rfl
@[simp] theorem State.modMember_history (ch : Channel) (f : Member → Member) :
    (s.modMember ch f).history = s.history := rfl
@[simp] theorem State.modMember_ports (ch : Channel) (f : Member → Member) :
    (s.modMember ch f).ports = s.ports := rfl
@[simp] theorem State.modMember_pending (ch : Channel) (f : Member → Member) :
    (s.modMember ch f).pending = s.pending := rfl
@[simp] theorem State.modMember_freeCount (ch : Channel) (f : Member → Member) :
    (s.modMember ch f).freeCount = s.freeCount := rfl
@[simp] theorem State.modMember_outbox (ch : Channel) (f : Member → Member) :
    (s.modMember ch f).outbox = s.outbox := rfl

/-! ## `State.modStanding` -/

@[simp] theorem State.modStanding_resetPin (ch : Channel) (f : Standing → Standing) :
    (s.modStanding ch f).resetPin = s.resetPin := rfl
@[simp] theorem State.modStanding_store (ch : Channel) (f : Standing → Standing) :
    (s.modStanding ch f).store = s.store := rfl
@[simp] theorem State.modStanding_timer (ch : Channel) (f : Standing → Standing) :
    (s.modStanding ch f).timer = s.timer := rfl
@[simp] theorem State.modStanding_members (ch : Channel) (f : Standing → Standing) :
    (s.modStanding ch f).members = s.members := rfl
@[simp] theorem State.modStanding_groupState (ch : Channel) (f : Standing → Standing) :
    (s.modStanding ch f).groupState = s.groupState := rfl
@[simp] theorem State.modStanding_window (ch : Channel) (f : Standing → Standing) :
    (s.modStanding ch f).window = s.window := rfl
@[simp] theorem State.modStanding_standing (ch : Channel) (f : Standing → Standing) :
    (s.modStanding ch f).standing =
    s.standing.set ch (f (s.standing.get ch)) := rfl
@[simp] theorem State.modStanding_part (ch : Channel) (f : Standing → Standing) :
    (s.modStanding ch f).part = s.part := rfl
@[simp] theorem State.modStanding_changes (ch : Channel) (f : Standing → Standing) :
    (s.modStanding ch f).changes = s.changes := rfl
@[simp] theorem State.modStanding_output (ch : Channel) (f : Standing → Standing) :
    (s.modStanding ch f).output = s.output := rfl
@[simp] theorem State.modStanding_history (ch : Channel) (f : Standing → Standing) :
    (s.modStanding ch f).history = s.history := rfl
@[simp] theorem State.modStanding_ports (ch : Channel) (f : Standing → Standing) :
    (s.modStanding ch f).ports = s.ports := rfl
@[simp] theorem State.modStanding_pending (ch : Channel) (f : Standing → Standing) :
    (s.modStanding ch f).pending = s.pending := rfl
@[simp] theorem State.modStanding_freeCount (ch : Channel) (f : Standing → Standing) :
    (s.modStanding ch f).freeCount = s.freeCount := rfl
@[simp] theorem State.modStanding_outbox (ch : Channel) (f : Standing → Standing) :
    (s.modStanding ch f).outbox = s.outbox := rfl

/-! ## `State.modPort` -/

@[simp] theorem State.modPort_resetPin (ch : Channel) (f : Port → Port) :
    (s.modPort ch f).resetPin = s.resetPin := rfl
@[simp] theorem State.modPort_store (ch : Channel) (f : Port → Port) : (s.modPort ch f).store = s.store := rfl
@[simp] theorem State.modPort_timer (ch : Channel) (f : Port → Port) : (s.modPort ch f).timer = s.timer := rfl
@[simp] theorem State.modPort_members (ch : Channel) (f : Port → Port) :
    (s.modPort ch f).members = s.members := rfl
@[simp] theorem State.modPort_groupState (ch : Channel) (f : Port → Port) :
    (s.modPort ch f).groupState = s.groupState := rfl
@[simp] theorem State.modPort_window (ch : Channel) (f : Port → Port) :
    (s.modPort ch f).window = s.window := rfl
@[simp] theorem State.modPort_standing (ch : Channel) (f : Port → Port) :
    (s.modPort ch f).standing = s.standing := rfl
@[simp] theorem State.modPort_part (ch : Channel) (f : Port → Port) : (s.modPort ch f).part = s.part := rfl
@[simp] theorem State.modPort_changes (ch : Channel) (f : Port → Port) :
    (s.modPort ch f).changes = s.changes := rfl
@[simp] theorem State.modPort_output (ch : Channel) (f : Port → Port) :
    (s.modPort ch f).output = s.output := rfl
@[simp] theorem State.modPort_history (ch : Channel) (f : Port → Port) :
    (s.modPort ch f).history = s.history := rfl
@[simp] theorem State.modPort_ports (ch : Channel) (f : Port → Port) : (s.modPort ch f).ports =
    s.ports.set ch (f (s.ports.get ch)) := rfl
@[simp] theorem State.modPort_pending (ch : Channel) (f : Port → Port) :
    (s.modPort ch f).pending = s.pending := rfl
@[simp] theorem State.modPort_freeCount (ch : Channel) (f : Port → Port) :
    (s.modPort ch f).freeCount = s.freeCount := rfl
@[simp] theorem State.modPort_outbox (ch : Channel) (f : Port → Port) :
    (s.modPort ch f).outbox = s.outbox := rfl

/-! ## `State.count` -/

@[simp] theorem State.count_resetPin (ch : Channel) (n : CounterName) :
    (s.count ch n).resetPin = s.resetPin := rfl
@[simp] theorem State.count_store (ch : Channel) (n : CounterName) : (s.count ch n).store = s.store := rfl
@[simp] theorem State.count_timer (ch : Channel) (n : CounterName) : (s.count ch n).timer = s.timer := rfl
@[simp] theorem State.count_members (ch : Channel) (n : CounterName) :
    (s.count ch n).members = s.members := rfl
@[simp] theorem State.count_groupState (ch : Channel) (n : CounterName) :
    (s.count ch n).groupState = s.groupState := rfl
@[simp] theorem State.count_window (ch : Channel) (n : CounterName) : (s.count ch n).window = s.window := rfl
@[simp] theorem State.count_standing (ch : Channel) (n : CounterName) :
    (s.count ch n).standing =
    s.standing.set ch { s.standing.get ch with counters := (s.standing.get ch).counters.bump n } := rfl
@[simp] theorem State.count_part (ch : Channel) (n : CounterName) : (s.count ch n).part = s.part := rfl
@[simp] theorem State.count_changes (ch : Channel) (n : CounterName) :
    (s.count ch n).changes = s.changes := rfl
@[simp] theorem State.count_output (ch : Channel) (n : CounterName) : (s.count ch n).output = s.output := rfl
@[simp] theorem State.count_history (ch : Channel) (n : CounterName) :
    (s.count ch n).history = s.history := rfl
@[simp] theorem State.count_ports (ch : Channel) (n : CounterName) : (s.count ch n).ports = s.ports := rfl
@[simp] theorem State.count_pending (ch : Channel) (n : CounterName) :
    (s.count ch n).pending = s.pending := rfl
@[simp] theorem State.count_freeCount (ch : Channel) (n : CounterName) :
    (s.count ch n).freeCount = s.freeCount := rfl
@[simp] theorem State.count_outbox (ch : Channel) (n : CounterName) : (s.count ch n).outbox = s.outbox := rfl

/-! ## `State.send` -/

@[simp] theorem State.send_resetPin (ch : Channel) (n : Notice) : (s.send ch n).resetPin = s.resetPin := rfl
@[simp] theorem State.send_store (ch : Channel) (n : Notice) : (s.send ch n).store = s.store := rfl
@[simp] theorem State.send_timer (ch : Channel) (n : Notice) : (s.send ch n).timer = s.timer := rfl
@[simp] theorem State.send_members (ch : Channel) (n : Notice) : (s.send ch n).members = s.members := rfl
@[simp] theorem State.send_groupState (ch : Channel) (n : Notice) :
    (s.send ch n).groupState = s.groupState := rfl
@[simp] theorem State.send_window (ch : Channel) (n : Notice) : (s.send ch n).window = s.window := rfl
@[simp] theorem State.send_standing (ch : Channel) (n : Notice) : (s.send ch n).standing = s.standing := rfl
@[simp] theorem State.send_part (ch : Channel) (n : Notice) : (s.send ch n).part = s.part := rfl
@[simp] theorem State.send_changes (ch : Channel) (n : Notice) : (s.send ch n).changes = s.changes := rfl
@[simp] theorem State.send_output (ch : Channel) (n : Notice) : (s.send ch n).output = s.output := rfl
@[simp] theorem State.send_history (ch : Channel) (n : Notice) : (s.send ch n).history = s.history := rfl
@[simp] theorem State.send_ports (ch : Channel) (n : Notice) : (s.send ch n).ports = s.ports := rfl
@[simp] theorem State.send_pending (ch : Channel) (n : Notice) : (s.send ch n).pending = s.pending := rfl
@[simp] theorem State.send_freeCount (ch : Channel) (n : Notice) : (s.send ch n).freeCount = s.freeCount := rfl
@[simp] theorem State.send_outbox (ch : Channel) (n : Notice) : (s.send ch n).outbox =
    s.outbox ++ [⟨0, some ch, n⟩] := rfl

/-! ## `State.broadcastAt` -/

@[simp] theorem State.broadcastAt_resetPin (k : Nat) (n : Notice) :
    (s.broadcastAt k n).resetPin = s.resetPin := rfl
@[simp] theorem State.broadcastAt_store (k : Nat) (n : Notice) : (s.broadcastAt k n).store = s.store := rfl
@[simp] theorem State.broadcastAt_timer (k : Nat) (n : Notice) : (s.broadcastAt k n).timer = s.timer := rfl
@[simp] theorem State.broadcastAt_members (k : Nat) (n : Notice) :
    (s.broadcastAt k n).members = s.members := rfl
@[simp] theorem State.broadcastAt_groupState (k : Nat) (n : Notice) :
    (s.broadcastAt k n).groupState = s.groupState := rfl
@[simp] theorem State.broadcastAt_window (k : Nat) (n : Notice) : (s.broadcastAt k n).window = s.window := rfl
@[simp] theorem State.broadcastAt_standing (k : Nat) (n : Notice) :
    (s.broadcastAt k n).standing = s.standing := rfl
@[simp] theorem State.broadcastAt_part (k : Nat) (n : Notice) : (s.broadcastAt k n).part = s.part := rfl
@[simp] theorem State.broadcastAt_changes (k : Nat) (n : Notice) :
    (s.broadcastAt k n).changes = s.changes := rfl
@[simp] theorem State.broadcastAt_output (k : Nat) (n : Notice) : (s.broadcastAt k n).output = s.output := rfl
@[simp] theorem State.broadcastAt_history (k : Nat) (n : Notice) :
    (s.broadcastAt k n).history = s.history := rfl
@[simp] theorem State.broadcastAt_ports (k : Nat) (n : Notice) : (s.broadcastAt k n).ports = s.ports := rfl
@[simp] theorem State.broadcastAt_pending (k : Nat) (n : Notice) :
    (s.broadcastAt k n).pending = s.pending := rfl
@[simp] theorem State.broadcastAt_freeCount (k : Nat) (n : Notice) :
    (s.broadcastAt k n).freeCount = s.freeCount := rfl
@[simp] theorem State.broadcastAt_outbox (k : Nat) (n : Notice) : (s.broadcastAt k n).outbox =
    s.outbox ++ [⟨k, none, n⟩] := rfl

/-! ## `State.broadcast` -/

@[simp] theorem State.broadcast_resetPin (n : Notice) : (s.broadcast n).resetPin = s.resetPin := rfl
@[simp] theorem State.broadcast_store (n : Notice) : (s.broadcast n).store = s.store := rfl
@[simp] theorem State.broadcast_timer (n : Notice) : (s.broadcast n).timer = s.timer := rfl
@[simp] theorem State.broadcast_members (n : Notice) : (s.broadcast n).members = s.members := rfl
@[simp] theorem State.broadcast_groupState (n : Notice) : (s.broadcast n).groupState = s.groupState := rfl
@[simp] theorem State.broadcast_window (n : Notice) : (s.broadcast n).window = s.window := rfl
@[simp] theorem State.broadcast_standing (n : Notice) : (s.broadcast n).standing = s.standing := rfl
@[simp] theorem State.broadcast_part (n : Notice) : (s.broadcast n).part = s.part := rfl
@[simp] theorem State.broadcast_changes (n : Notice) : (s.broadcast n).changes = s.changes := rfl
@[simp] theorem State.broadcast_output (n : Notice) : (s.broadcast n).output = s.output := rfl
@[simp] theorem State.broadcast_history (n : Notice) : (s.broadcast n).history = s.history := rfl
@[simp] theorem State.broadcast_ports (n : Notice) : (s.broadcast n).ports = s.ports := rfl
@[simp] theorem State.broadcast_pending (n : Notice) : (s.broadcast n).pending = s.pending := rfl
@[simp] theorem State.broadcast_freeCount (n : Notice) : (s.broadcast n).freeCount = s.freeCount := rfl
@[simp] theorem State.broadcast_outbox (n : Notice) : (s.broadcast n).outbox =
    s.outbox ++ [⟨0, none, n⟩] := rfl

/-! ## `State.refuse` -/

@[simp] theorem State.refuse_resetPin (ch : Channel) (k : Byte) (r : RefusalReason) :
    (s.refuse ch k r).resetPin = s.resetPin := rfl
@[simp] theorem State.refuse_store (ch : Channel) (k : Byte) (r : RefusalReason) :
    (s.refuse ch k r).store = s.store := rfl
@[simp] theorem State.refuse_timer (ch : Channel) (k : Byte) (r : RefusalReason) :
    (s.refuse ch k r).timer = s.timer := rfl
@[simp] theorem State.refuse_members (ch : Channel) (k : Byte) (r : RefusalReason) :
    (s.refuse ch k r).members = s.members := rfl
@[simp] theorem State.refuse_groupState (ch : Channel) (k : Byte) (r : RefusalReason) :
    (s.refuse ch k r).groupState = s.groupState := rfl
@[simp] theorem State.refuse_window (ch : Channel) (k : Byte) (r : RefusalReason) :
    (s.refuse ch k r).window = s.window := rfl
@[simp] theorem State.refuse_standing (ch : Channel) (k : Byte) (r : RefusalReason) :
    (s.refuse ch k r).standing = s.standing := rfl
@[simp] theorem State.refuse_part (ch : Channel) (k : Byte) (r : RefusalReason) :
    (s.refuse ch k r).part = s.part := rfl
@[simp] theorem State.refuse_changes (ch : Channel) (k : Byte) (r : RefusalReason) :
    (s.refuse ch k r).changes = s.changes := rfl
@[simp] theorem State.refuse_output (ch : Channel) (k : Byte) (r : RefusalReason) :
    (s.refuse ch k r).output = s.output := rfl
@[simp] theorem State.refuse_history (ch : Channel) (k : Byte) (r : RefusalReason) :
    (s.refuse ch k r).history = s.history := rfl
@[simp] theorem State.refuse_ports (ch : Channel) (k : Byte) (r : RefusalReason) :
    (s.refuse ch k r).ports = s.ports := rfl
@[simp] theorem State.refuse_pending (ch : Channel) (k : Byte) (r : RefusalReason) :
    (s.refuse ch k r).pending = s.pending := rfl
@[simp] theorem State.refuse_freeCount (ch : Channel) (k : Byte) (r : RefusalReason) :
    (s.refuse ch k r).freeCount = s.freeCount := rfl
@[simp] theorem State.refuse_outbox (ch : Channel) (k : Byte) (r : RefusalReason) :
    (s.refuse ch k r).outbox =
    s.outbox ++ [⟨0, some ch, .refused k r⟩] := rfl

/-! ## `State.emptyQueue` -/

@[simp] theorem State.emptyQueue_resetPin (ch : Channel) : (s.emptyQueue ch).resetPin = s.resetPin := rfl
@[simp] theorem State.emptyQueue_store (ch : Channel) : (s.emptyQueue ch).store = s.store := rfl
@[simp] theorem State.emptyQueue_timer (ch : Channel) : (s.emptyQueue ch).timer = s.timer := rfl
@[simp] theorem State.emptyQueue_members (ch : Channel) : (s.emptyQueue ch).members = s.members := rfl
@[simp] theorem State.emptyQueue_groupState (ch : Channel) :
    (s.emptyQueue ch).groupState = s.groupState := rfl
@[simp] theorem State.emptyQueue_window (ch : Channel) : (s.emptyQueue ch).window =
    { s.window with
      queues := s.window.queues.set ch []
      rounds := s.window.rounds.map fun r => { r with arrival := r.arrival.set ch false } } := rfl
@[simp] theorem State.emptyQueue_standing (ch : Channel) : (s.emptyQueue ch).standing = s.standing := rfl
@[simp] theorem State.emptyQueue_part (ch : Channel) : (s.emptyQueue ch).part = s.part := rfl
@[simp] theorem State.emptyQueue_changes (ch : Channel) : (s.emptyQueue ch).changes = s.changes := rfl
@[simp] theorem State.emptyQueue_output (ch : Channel) : (s.emptyQueue ch).output = s.output := rfl
@[simp] theorem State.emptyQueue_history (ch : Channel) : (s.emptyQueue ch).history = s.history := rfl
@[simp] theorem State.emptyQueue_ports (ch : Channel) : (s.emptyQueue ch).ports = s.ports := rfl
@[simp] theorem State.emptyQueue_pending (ch : Channel) : (s.emptyQueue ch).pending = s.pending := rfl
@[simp] theorem State.emptyQueue_freeCount (ch : Channel) : (s.emptyQueue ch).freeCount = s.freeCount := rfl
@[simp] theorem State.emptyQueue_outbox (ch : Channel) : (s.emptyQueue ch).outbox = s.outbox := rfl

/-! ## `State.dropFoundingExpiry` -/

@[simp] theorem State.dropFoundingExpiry_resetPin (k : Byte) :
    (s.dropFoundingExpiry k).resetPin = s.resetPin := rfl
@[simp] theorem State.dropFoundingExpiry_store (k : Byte) : (s.dropFoundingExpiry k).store = s.store := rfl
@[simp] theorem State.dropFoundingExpiry_timer (k : Byte) : (s.dropFoundingExpiry k).timer =
    { s.timer with
      foundingExpiries := s.timer.foundingExpiries.filter fun e => e.ticket != k } := rfl
@[simp] theorem State.dropFoundingExpiry_members (k : Byte) :
    (s.dropFoundingExpiry k).members = s.members := rfl
@[simp] theorem State.dropFoundingExpiry_groupState (k : Byte) :
    (s.dropFoundingExpiry k).groupState = s.groupState := rfl
@[simp] theorem State.dropFoundingExpiry_window (k : Byte) :
    (s.dropFoundingExpiry k).window = s.window := rfl
@[simp] theorem State.dropFoundingExpiry_standing (k : Byte) :
    (s.dropFoundingExpiry k).standing = s.standing := rfl
@[simp] theorem State.dropFoundingExpiry_part (k : Byte) : (s.dropFoundingExpiry k).part = s.part := rfl
@[simp] theorem State.dropFoundingExpiry_changes (k : Byte) :
    (s.dropFoundingExpiry k).changes = s.changes := rfl
@[simp] theorem State.dropFoundingExpiry_output (k : Byte) :
    (s.dropFoundingExpiry k).output = s.output := rfl
@[simp] theorem State.dropFoundingExpiry_history (k : Byte) :
    (s.dropFoundingExpiry k).history = s.history := rfl
@[simp] theorem State.dropFoundingExpiry_ports (k : Byte) : (s.dropFoundingExpiry k).ports = s.ports := rfl
@[simp] theorem State.dropFoundingExpiry_pending (k : Byte) :
    (s.dropFoundingExpiry k).pending = s.pending := rfl
@[simp] theorem State.dropFoundingExpiry_freeCount (k : Byte) :
    (s.dropFoundingExpiry k).freeCount = s.freeCount := rfl
@[simp] theorem State.dropFoundingExpiry_outbox (k : Byte) :
    (s.dropFoundingExpiry k).outbox = s.outbox := rfl

/-! ## `State.removeEntry` -/

@[simp] theorem State.removeEntry_resetPin (k : Byte) : (s.removeEntry k).resetPin = s.resetPin := rfl
@[simp] theorem State.removeEntry_store (k : Byte) : (s.removeEntry k).store = s.store := rfl
@[simp] theorem State.removeEntry_timer (k : Byte) : (s.removeEntry k).timer = s.timer := rfl
@[simp] theorem State.removeEntry_members (k : Byte) : (s.removeEntry k).members = s.members := rfl
@[simp] theorem State.removeEntry_groupState (k : Byte) : (s.removeEntry k).groupState = s.groupState := rfl
@[simp] theorem State.removeEntry_window (k : Byte) : (s.removeEntry k).window = s.window := rfl
@[simp] theorem State.removeEntry_standing (k : Byte) : (s.removeEntry k).standing = s.standing := rfl
@[simp] theorem State.removeEntry_part (k : Byte) : (s.removeEntry k).part = s.part := rfl
@[simp] theorem State.removeEntry_changes (k : Byte) : (s.removeEntry k).changes =
    { s.changes with
      entries := s.changes.entries.filter fun e => e.ticket != k } := rfl
@[simp] theorem State.removeEntry_output (k : Byte) : (s.removeEntry k).output = s.output := rfl
@[simp] theorem State.removeEntry_history (k : Byte) : (s.removeEntry k).history = s.history := rfl
@[simp] theorem State.removeEntry_ports (k : Byte) : (s.removeEntry k).ports = s.ports := rfl
@[simp] theorem State.removeEntry_pending (k : Byte) : (s.removeEntry k).pending = s.pending := rfl
@[simp] theorem State.removeEntry_freeCount (k : Byte) : (s.removeEntry k).freeCount = s.freeCount := rfl
@[simp] theorem State.removeEntry_outbox (k : Byte) : (s.removeEntry k).outbox = s.outbox := rfl

/-! ## `State.modEntry` -/

@[simp] theorem State.modEntry_resetPin (k : Byte) (f : ChangeEntry → ChangeEntry) :
    (s.modEntry k f).resetPin = s.resetPin := rfl
@[simp] theorem State.modEntry_store (k : Byte) (f : ChangeEntry → ChangeEntry) :
    (s.modEntry k f).store = s.store := rfl
@[simp] theorem State.modEntry_timer (k : Byte) (f : ChangeEntry → ChangeEntry) :
    (s.modEntry k f).timer = s.timer := rfl
@[simp] theorem State.modEntry_members (k : Byte) (f : ChangeEntry → ChangeEntry) :
    (s.modEntry k f).members = s.members := rfl
@[simp] theorem State.modEntry_groupState (k : Byte) (f : ChangeEntry → ChangeEntry) :
    (s.modEntry k f).groupState = s.groupState := rfl
@[simp] theorem State.modEntry_window (k : Byte) (f : ChangeEntry → ChangeEntry) :
    (s.modEntry k f).window = s.window := rfl
@[simp] theorem State.modEntry_standing (k : Byte) (f : ChangeEntry → ChangeEntry) :
    (s.modEntry k f).standing = s.standing := rfl
@[simp] theorem State.modEntry_part (k : Byte) (f : ChangeEntry → ChangeEntry) :
    (s.modEntry k f).part = s.part := rfl
@[simp] theorem State.modEntry_changes (k : Byte) (f : ChangeEntry → ChangeEntry) :
    (s.modEntry k f).changes =
    { s.changes with
      entries := s.changes.entries.map fun e => if e.ticket = k then f e else e } := rfl
@[simp] theorem State.modEntry_output (k : Byte) (f : ChangeEntry → ChangeEntry) :
    (s.modEntry k f).output = s.output := rfl
@[simp] theorem State.modEntry_history (k : Byte) (f : ChangeEntry → ChangeEntry) :
    (s.modEntry k f).history = s.history := rfl
@[simp] theorem State.modEntry_ports (k : Byte) (f : ChangeEntry → ChangeEntry) :
    (s.modEntry k f).ports = s.ports := rfl
@[simp] theorem State.modEntry_pending (k : Byte) (f : ChangeEntry → ChangeEntry) :
    (s.modEntry k f).pending = s.pending := rfl
@[simp] theorem State.modEntry_freeCount (k : Byte) (f : ChangeEntry → ChangeEntry) :
    (s.modEntry k f).freeCount = s.freeCount := rfl
@[simp] theorem State.modEntry_outbox (k : Byte) (f : ChangeEntry → ChangeEntry) :
    (s.modEntry k f).outbox = s.outbox := rfl

/-! ## `State.countVoid` -/

@[simp] theorem State.countVoid_resetPin : (s.countVoid).resetPin = s.resetPin := rfl
@[simp] theorem State.countVoid_store : (s.countVoid).store = s.store := rfl
@[simp] theorem State.countVoid_timer : (s.countVoid).timer = s.timer := rfl
@[simp] theorem State.countVoid_members : (s.countVoid).members = s.members := rfl
@[simp] theorem State.countVoid_groupState : (s.countVoid).groupState = s.groupState := rfl
@[simp] theorem State.countVoid_window : (s.countVoid).window = s.window := rfl
@[simp] theorem State.countVoid_standing : (s.countVoid).standing = s.standing := rfl
@[simp] theorem State.countVoid_part : (s.countVoid).part =
    { s.part with changesVoided := saturate16 s.part.changesVoided } := rfl
@[simp] theorem State.countVoid_changes : (s.countVoid).changes = s.changes := rfl
@[simp] theorem State.countVoid_output : (s.countVoid).output = s.output := rfl
@[simp] theorem State.countVoid_history : (s.countVoid).history = s.history := rfl
@[simp] theorem State.countVoid_ports : (s.countVoid).ports = s.ports := rfl
@[simp] theorem State.countVoid_pending : (s.countVoid).pending = s.pending := rfl
@[simp] theorem State.countVoid_freeCount : (s.countVoid).freeCount = s.freeCount := rfl
@[simp] theorem State.countVoid_outbox : (s.countVoid).outbox = s.outbox := rfl

/-! ## `State.countCommit` -/

@[simp] theorem State.countCommit_resetPin : (s.countCommit).resetPin = s.resetPin := rfl
@[simp] theorem State.countCommit_store : (s.countCommit).store = s.store := rfl
@[simp] theorem State.countCommit_timer : (s.countCommit).timer = s.timer := rfl
@[simp] theorem State.countCommit_members : (s.countCommit).members = s.members := rfl
@[simp] theorem State.countCommit_groupState : (s.countCommit).groupState = s.groupState := rfl
@[simp] theorem State.countCommit_window : (s.countCommit).window = s.window := rfl
@[simp] theorem State.countCommit_standing : (s.countCommit).standing = s.standing := rfl
@[simp] theorem State.countCommit_part : (s.countCommit).part =
    { s.part with changesCommitted := saturate16 s.part.changesCommitted } := rfl
@[simp] theorem State.countCommit_changes : (s.countCommit).changes = s.changes := rfl
@[simp] theorem State.countCommit_output : (s.countCommit).output = s.output := rfl
@[simp] theorem State.countCommit_history : (s.countCommit).history = s.history := rfl
@[simp] theorem State.countCommit_ports : (s.countCommit).ports = s.ports := rfl
@[simp] theorem State.countCommit_pending : (s.countCommit).pending = s.pending := rfl
@[simp] theorem State.countCommit_freeCount : (s.countCommit).freeCount = s.freeCount := rfl
@[simp] theorem State.countCommit_outbox : (s.countCommit).outbox = s.outbox := rfl

/-! ## `State.countDecision` -/

@[simp] theorem State.countDecision_resetPin : (s.countDecision).resetPin = s.resetPin := rfl
@[simp] theorem State.countDecision_store : (s.countDecision).store = s.store := rfl
@[simp] theorem State.countDecision_timer : (s.countDecision).timer = s.timer := rfl
@[simp] theorem State.countDecision_members : (s.countDecision).members = s.members := rfl
@[simp] theorem State.countDecision_groupState : (s.countDecision).groupState = s.groupState := rfl
@[simp] theorem State.countDecision_window : (s.countDecision).window = s.window := rfl
@[simp] theorem State.countDecision_standing : (s.countDecision).standing = s.standing := rfl
@[simp] theorem State.countDecision_part : (s.countDecision).part =
    { s.part with decisions := saturate32 s.part.decisions } := rfl
@[simp] theorem State.countDecision_changes : (s.countDecision).changes = s.changes := rfl
@[simp] theorem State.countDecision_output : (s.countDecision).output = s.output := rfl
@[simp] theorem State.countDecision_history : (s.countDecision).history = s.history := rfl
@[simp] theorem State.countDecision_ports : (s.countDecision).ports = s.ports := rfl
@[simp] theorem State.countDecision_pending : (s.countDecision).pending = s.pending := rfl
@[simp] theorem State.countDecision_freeCount : (s.countDecision).freeCount = s.freeCount := rfl
@[simp] theorem State.countDecision_outbox : (s.countDecision).outbox = s.outbox := rfl

/-! ## `State.writeHistory` -/

@[simp] theorem State.writeHistory_resetPin (d : DecisionRecord) :
    (s.writeHistory d).resetPin = s.resetPin := rfl
@[simp] theorem State.writeHistory_store (d : DecisionRecord) : (s.writeHistory d).store = s.store := rfl
@[simp] theorem State.writeHistory_timer (d : DecisionRecord) : (s.writeHistory d).timer = s.timer := rfl
@[simp] theorem State.writeHistory_members (d : DecisionRecord) :
    (s.writeHistory d).members = s.members := rfl
@[simp] theorem State.writeHistory_groupState (d : DecisionRecord) :
    (s.writeHistory d).groupState = s.groupState := rfl
@[simp] theorem State.writeHistory_window (d : DecisionRecord) : (s.writeHistory d).window = s.window := rfl
@[simp] theorem State.writeHistory_standing (d : DecisionRecord) :
    (s.writeHistory d).standing = s.standing := rfl
@[simp] theorem State.writeHistory_part (d : DecisionRecord) : (s.writeHistory d).part = s.part := rfl
@[simp] theorem State.writeHistory_changes (d : DecisionRecord) :
    (s.writeHistory d).changes = s.changes := rfl
@[simp] theorem State.writeHistory_output (d : DecisionRecord) : (s.writeHistory d).output = s.output := rfl
@[simp] theorem State.writeHistory_history (d : DecisionRecord) :
    (s.writeHistory d).history =
    (d :: s.history).take 16 := rfl
@[simp] theorem State.writeHistory_ports (d : DecisionRecord) : (s.writeHistory d).ports = s.ports := rfl
@[simp] theorem State.writeHistory_pending (d : DecisionRecord) :
    (s.writeHistory d).pending = s.pending := rfl
@[simp] theorem State.writeHistory_freeCount (d : DecisionRecord) :
    (s.writeHistory d).freeCount = s.freeCount := rfl
@[simp] theorem State.writeHistory_outbox (d : DecisionRecord) : (s.writeHistory d).outbox = s.outbox := rfl

/-! ## `State.reopenFrame` -/

@[simp] theorem State.reopenFrame_resetPin (ch : Channel) : (s.reopenFrame ch).resetPin = s.resetPin := rfl
@[simp] theorem State.reopenFrame_store (ch : Channel) : (s.reopenFrame ch).store = s.store := rfl
@[simp] theorem State.reopenFrame_timer (ch : Channel) : (s.reopenFrame ch).timer = s.timer := rfl
@[simp] theorem State.reopenFrame_members (ch : Channel) : (s.reopenFrame ch).members = s.members := rfl
@[simp] theorem State.reopenFrame_groupState (ch : Channel) :
    (s.reopenFrame ch).groupState = s.groupState := rfl
@[simp] theorem State.reopenFrame_window (ch : Channel) : (s.reopenFrame ch).window = s.window := rfl
@[simp] theorem State.reopenFrame_standing (ch : Channel) : (s.reopenFrame ch).standing = s.standing := rfl
@[simp] theorem State.reopenFrame_part (ch : Channel) : (s.reopenFrame ch).part = s.part := rfl
@[simp] theorem State.reopenFrame_changes (ch : Channel) : (s.reopenFrame ch).changes = s.changes := rfl
@[simp] theorem State.reopenFrame_output (ch : Channel) : (s.reopenFrame ch).output = s.output := rfl
@[simp] theorem State.reopenFrame_history (ch : Channel) : (s.reopenFrame ch).history = s.history := rfl
@[simp] theorem State.reopenFrame_ports (ch : Channel) : (s.reopenFrame ch).ports =
    s.ports.set ch { s.ports.get ch with receiver := .inFrame [] s.timer.tickCount } := rfl
@[simp] theorem State.reopenFrame_pending (ch : Channel) : (s.reopenFrame ch).pending = s.pending := rfl
@[simp] theorem State.reopenFrame_freeCount (ch : Channel) :
    (s.reopenFrame ch).freeCount = s.freeCount := rfl
@[simp] theorem State.reopenFrame_outbox (ch : Channel) : (s.reopenFrame ch).outbox = s.outbox := rfl

/-! ## `State.countHoldoff` -/

@[simp] theorem State.countHoldoff_resetPin (ch : Channel) : (s.countHoldoff ch).resetPin = s.resetPin := rfl
@[simp] theorem State.countHoldoff_store (ch : Channel) : (s.countHoldoff ch).store = s.store := rfl
@[simp] theorem State.countHoldoff_timer (ch : Channel) : (s.countHoldoff ch).timer = s.timer := rfl
@[simp] theorem State.countHoldoff_members (ch : Channel) : (s.countHoldoff ch).members =
    s.members.set ch { s.members.get ch with holdoff := (s.members.get ch).holdoff - 1 } := rfl
@[simp] theorem State.countHoldoff_groupState (ch : Channel) :
    (s.countHoldoff ch).groupState = s.groupState := rfl
@[simp] theorem State.countHoldoff_window (ch : Channel) : (s.countHoldoff ch).window = s.window := rfl
@[simp] theorem State.countHoldoff_standing (ch : Channel) : (s.countHoldoff ch).standing = s.standing := rfl
@[simp] theorem State.countHoldoff_part (ch : Channel) : (s.countHoldoff ch).part = s.part := rfl
@[simp] theorem State.countHoldoff_changes (ch : Channel) : (s.countHoldoff ch).changes = s.changes := rfl
@[simp] theorem State.countHoldoff_output (ch : Channel) : (s.countHoldoff ch).output = s.output := rfl
@[simp] theorem State.countHoldoff_history (ch : Channel) : (s.countHoldoff ch).history = s.history := rfl
@[simp] theorem State.countHoldoff_ports (ch : Channel) : (s.countHoldoff ch).ports = s.ports := rfl
@[simp] theorem State.countHoldoff_pending (ch : Channel) : (s.countHoldoff ch).pending = s.pending := rfl
@[simp] theorem State.countHoldoff_freeCount (ch : Channel) :
    (s.countHoldoff ch).freeCount = s.freeCount := rfl
@[simp] theorem State.countHoldoff_outbox (ch : Channel) : (s.countHoldoff ch).outbox = s.outbox := rfl

/-! ## `State.clearCounters` -/

@[simp] theorem State.clearCounters_resetPin (ch : Channel) :
    (s.clearCounters ch).resetPin = s.resetPin := rfl
@[simp] theorem State.clearCounters_store (ch : Channel) : (s.clearCounters ch).store = s.store := rfl
@[simp] theorem State.clearCounters_timer (ch : Channel) : (s.clearCounters ch).timer = s.timer := rfl
@[simp] theorem State.clearCounters_members (ch : Channel) : (s.clearCounters ch).members = s.members := rfl
@[simp] theorem State.clearCounters_groupState (ch : Channel) :
    (s.clearCounters ch).groupState = s.groupState := rfl
@[simp] theorem State.clearCounters_window (ch : Channel) : (s.clearCounters ch).window = s.window := rfl
@[simp] theorem State.clearCounters_standing (ch : Channel) :
    (s.clearCounters ch).standing =
    s.standing.set ch { s.standing.get ch with counters := Counters.zero } := rfl
@[simp] theorem State.clearCounters_part (ch : Channel) : (s.clearCounters ch).part = s.part := rfl
@[simp] theorem State.clearCounters_changes (ch : Channel) : (s.clearCounters ch).changes = s.changes := rfl
@[simp] theorem State.clearCounters_output (ch : Channel) : (s.clearCounters ch).output = s.output := rfl
@[simp] theorem State.clearCounters_history (ch : Channel) : (s.clearCounters ch).history = s.history := rfl
@[simp] theorem State.clearCounters_ports (ch : Channel) : (s.clearCounters ch).ports = s.ports := rfl
@[simp] theorem State.clearCounters_pending (ch : Channel) : (s.clearCounters ch).pending = s.pending := rfl
@[simp] theorem State.clearCounters_freeCount (ch : Channel) :
    (s.clearCounters ch).freeCount = s.freeCount := rfl
@[simp] theorem State.clearCounters_outbox (ch : Channel) : (s.clearCounters ch).outbox = s.outbox := rfl

/-! ## `State.tick` -/

@[simp] theorem State.tick_resetPin : (s.tick).resetPin = s.resetPin := rfl
@[simp] theorem State.tick_store : (s.tick).store = s.store := rfl
@[simp] theorem State.tick_timer : (s.tick).timer =
    { s.timer with tickCount := s.timer.tickCount + 1 } := rfl
@[simp] theorem State.tick_members : (s.tick).members = s.members := rfl
@[simp] theorem State.tick_groupState : (s.tick).groupState = s.groupState := rfl
@[simp] theorem State.tick_window : (s.tick).window = s.window := rfl
@[simp] theorem State.tick_standing : (s.tick).standing = s.standing := rfl
@[simp] theorem State.tick_part : (s.tick).part = s.part := rfl
@[simp] theorem State.tick_changes : (s.tick).changes = s.changes := rfl
@[simp] theorem State.tick_output : (s.tick).output = s.output := rfl
@[simp] theorem State.tick_history : (s.tick).history = s.history := rfl
@[simp] theorem State.tick_ports : (s.tick).ports = s.ports := rfl
@[simp] theorem State.tick_pending : (s.tick).pending = s.pending := rfl
@[simp] theorem State.tick_freeCount : (s.tick).freeCount = s.freeCount := rfl
@[simp] theorem State.tick_outbox : (s.tick).outbox = s.outbox := rfl

end Machine

end Sys2Proof
end

