-- ==== Sys2Proof/Laws/Ops.lean ====
section
/-!
SUPPORT. For each shared operation of Machine/, once, all that it can change (`…_keeps`), and what it gives where that is
short to say. Later proofs cite these in place of unfolding an operation.
-/

namespace Sys2Proof.Machine

/-! ## Frames compose -/

theorem State.keepsAllBut.refl (s : State) (l : List Block) : s.keepsAllBut s l := fun b _ => by cases b <;> rfl

theorem State.sameBlock.trans {s t u : State} {b : Block} (h : s.sameBlock t b) (k : t.sameBlock u b) :
    s.sameBlock u b := by
  cases b <;> exact Eq.trans k h

theorem State.keepsAllBut.trans {s t u : State} {l : List Block} (h : s.keepsAllBut t l) (k : t.keepsAllBut u l) :
    s.keepsAllBut u l := fun b hb => (h b hb).trans (k b hb)

theorem State.keepsAllBut.mono {s t : State} {l m : List Block} (h : s.keepsAllBut t l) (hs : ∀ b ∈ l, b ∈ m) :
    s.keepsAllBut t m := fun b hb => h b fun hl => hb (hs b hl)

/-- A frame holds of a fold when it holds of each of its steps. -/
theorem State.keepsAllBut.foldl {α : Type} {l : List Block} {f : State → α → State}
    (h : ∀ (s : State) (x : α), s.keepsAllBut (f s x) l) (xs : List α) (s : State) :
    s.keepsAllBut (xs.foldl f s) l := by
  induction xs generalizing s with
  | nil => exact .refl s l
  | cons x xs ih => exact (h s x).trans (ih (f s x))

/-! ## Single updates -/

variable (s : State)

theorem State.modMember_keeps (ch : Channel) (f : Member → Member) : s.keepsAllBut (s.modMember ch f) [.members] :=
  fun b hb => by cases b <;> simp_all [State.sameBlock]

theorem State.modStanding_keeps (ch : Channel) (f : Standing → Standing) :
    s.keepsAllBut (s.modStanding ch f) [.standing] := fun b hb => by cases b <;> simp_all [State.sameBlock]

theorem State.modPort_keeps (ch : Channel) (f : Port → Port) : s.keepsAllBut (s.modPort ch f) [.ports] :=
  fun b hb => by cases b <;> simp_all [State.sameBlock]

theorem State.count_keeps (ch : Channel) (n : CounterName) : s.keepsAllBut (s.count ch n) [.standing] :=
  s.modStanding_keeps ch _

theorem State.send_keeps (ch : Channel) (n : Notice) : s.keepsAllBut (s.send ch n) [.outbox] :=
  fun b hb => by cases b <;> simp_all [State.sameBlock]

theorem State.broadcastAt_keeps (k : Nat) (n : Notice) : s.keepsAllBut (s.broadcastAt k n) [.outbox] :=
  fun b hb => by cases b <;> simp_all [State.sameBlock]

theorem State.broadcast_keeps (n : Notice) : s.keepsAllBut (s.broadcast n) [.outbox] := s.broadcastAt_keeps 0 n

theorem State.refuse_keeps (ch : Channel) (k : Byte) (r : RefusalReason) :
    s.keepsAllBut (s.refuse ch k r) [.outbox] := s.send_keeps ch _

theorem State.reachTick_keeps (t : Tick) : s.keepsAllBut (s.reachTick t) [.timer] := by
  unfold State.reachTick
  split
  · exact fun b hb => by cases b <;> simp_all [State.sameBlock]
  · exact .refl s _

/-- The tick count after a scheduled time is reached (log entry 4). -/
theorem State.reachTick_tickCount (t : Tick) :
    (s.reachTick t).timer.tickCount = if older s.timer.tickCount t then t else s.timer.tickCount := by
  unfold State.reachTick
  split <;> rfl

/-! ## Notices -/

/-- A notice taken by a port changes nothing of it but its waiting notices and their lost count (R157). -/
theorem Port.takeNotice_sameButNotices (p : Port) (n : Notice) : p.sameButNotices (p.takeNotice n) := by
  unfold Port.takeNotice Port.sameButNotices
  split <;> rfl

theorem Port.sameButNotices.refl (p : Port) : p.sameButNotices p := rfl

theorem Port.sameButNotices.trans {p q r : Port} (h : p.sameButNotices q) (k : q.sameButNotices r) :
    p.sameButNotices r := by
  unfold Port.sameButNotices at *
  rw [k, h]

theorem Port.foldl_takeNotice_sameButNotices (l : List Notice) (p : Port) :
    p.sameButNotices (l.foldl Port.takeNotice p) := by
  induction l generalizing p with
  | nil => exact .refl p
  | cons n l ih => exact (p.takeNotice_sameButNotices n).trans (ih _)

theorem insertAt_perm {α : Type} (l : List α) (n : Nat) (x : α) : (insertAt l n x).Perm (x :: l) := by
  induction l generalizing n with
  | nil => exact .refl _
  | cons y l ih =>
    cases n with
    | zero => exact .refl _
    | succ n => exact ((ih n).cons y).trans (.swap x y l)

/-- Whatever order the free values choose, the notices are those offered, each once (R157). -/
theorem shuffled_perm {α : Type} (l : List α) (draw : Nat) : (shuffled l draw).Perm l := by
  induction l generalizing draw with
  | nil => exact .refl _
  | cons x l ih => exact (insertAt_perm _ _ x).trans ((ih _).cons x)

/-- At most one notice has one order. -/
theorem shuffled_singleton {α : Type} (x : α) (draw : Nat) : shuffled [x] draw = [x] := rfl

theorem noticesInOrder_nil (ch : Channel) (draw : Nat) : noticesInOrder [] ch draw = [] := rfl

theorem State.deliverNotices_keeps (ch : Channel) : s.keepsAllBut (s.deliverNotices ch) [.ports] := by
  unfold State.deliverNotices
  split
  · exact fun b hb => by cases b <;> simp_all [State.sameBlock]
  · exact .refl s _

/-- The notices of an event change the ports' notice queues and nothing else (R157). -/
theorem State.settleNotices_keeps : s.keepsAllBut s.settleNotices [.ports, .outbox] := by
  have h : s.keepsAllBut (Channel.all.foldl State.deliverNotices s) [.ports, .outbox] :=
    .foldl (fun s ch => (s.deliverNotices_keeps ch).mono (by decide)) _ s
  refine h.trans fun b hb => ?_
  cases b <;> simp_all [State.sameBlock, State.settleNotices]

theorem State.settleNotices_outbox : s.settleNotices.outbox = [] := rfl

theorem State.deliverNotices_of_empty (h : s.outbox = []) (ch : Channel) : s.deliverNotices ch = s := by
  unfold State.deliverNotices
  rw [h]
  simp [State.modPort, noticesInOrder_nil]

/-- An event that offered no notice leaves the state as it is. -/
theorem State.settleNotices_of_empty (h : s.outbox = []) : s.settleNotices = s := by
  unfold State.settleNotices
  rw [show Channel.all.foldl State.deliverNotices s = s from by
    simp [Channel.all, State.deliverNotices_of_empty _ h]]
  exact congrArg (fun o => { s with outbox := o }) h.symm

/-- The notices at one channel's port: an UP port takes those offered to it, and no other port changes (R155, R157). -/
theorem State.deliverNotices_port (x ch : Channel) :
    (s.deliverNotices x).ports.get ch =
      if ch = x ∧ s.isUp x = true then (noticesInOrder s.outbox x s.freeCount).foldl Port.takeNotice (s.ports.get x)
      else s.ports.get ch := by
  unfold State.deliverNotices
  cases h : s.isUp x <;> cases x <;> cases ch <;> simp [State.modPort, PerChannel.get, PerChannel.set]

theorem State.deliverNotices_outbox (x : Channel) : (s.deliverNotices x).outbox = s.outbox := by
  unfold State.deliverNotices
  split <;> rfl

/-- Each UP port takes the event's notices for it, in an order that a free value chooses; no other port changes. -/
theorem State.settleNotices_port (ch : Channel) : ∃ draw, s.settleNotices.ports.get ch =
    if s.isUp ch then (noticesInOrder s.outbox ch draw).foldl Port.takeNotice (s.ports.get ch)
    else s.ports.get ch := by
  have h : s.settleNotices.ports = ((((s.deliverNotices .a).deliverNotices .b).deliverNotices .c).deliverNotices .d).ports := by
    simp only [State.settleNotices, Channel.all, List.foldl_cons, List.foldl_nil]
  cases ch
  · refine ⟨s.freeCount, ?_⟩
    simp [h, State.deliverNotices_port]
  · refine ⟨(s.deliverNotices .a).freeCount, ?_⟩
    simp [h, State.deliverNotices_port, State.deliverNotices_outbox, State.isUp]
  · refine ⟨((s.deliverNotices .a).deliverNotices .b).freeCount, ?_⟩
    simp [h, State.deliverNotices_port, State.deliverNotices_outbox, State.isUp]
  · refine ⟨(((s.deliverNotices .a).deliverNotices .b).deliverNotices .c).freeCount, ?_⟩
    simp [h, State.deliverNotices_port, State.deliverNotices_outbox, State.isUp]

theorem Port.foldl_offered (l : List Notice) (p : Port) :
    l.foldl Port.offered p = if p.line = .up then l.foldl Port.takeNotice p else p := by
  induction l generalizing p with
  | nil => simp
  | cons n l ih =>
    have h : (p.takeNotice n).line = p.line := by rw [p.takeNotice_sameButNotices n]
    by_cases hu : p.line = .up <;> simp [Port.offered, ih, hu, h]

/-- Where an event offers notices at one stage alone, each port is offered them in an order that no rule fixes (R157). -/
theorem State.settleNotices_offeredAll (ch : Channel) (h : ∀ o ∈ s.outbox, o.stage = 0) :
    (s.ports.get ch).offeredAll (s.settleNotices.ports.get ch) (noticesFor s.outbox ch 0) := by
  obtain ⟨draw, hd⟩ := s.settleNotices_port ch
  have hn : ∀ k, k ≠ 0 → noticesFor s.outbox ch k = [] := by
    intro k hk
    simp only [noticesFor, List.map_eq_nil_iff, List.filter_eq_nil_iff]
    intro o ho
    simp [h o ho, Ne.symm hk]
  refine ⟨noticesInOrder s.outbox ch draw, ?_, ?_⟩
  · simp only [noticesInOrder, List.range, List.range.loop, List.flatMap_cons, List.flatMap_nil]
    rw [hn 1 (by decide), hn 2 (by decide), hn 3 (by decide)]
    simpa [shuffled] using shuffled_perm _ _
  · rw [hd, Port.foldl_offered]
    simp [State.isUp]

/-! ## Sealing and the group state -/

/-- The completeness check leaves all but the rounds as it is (R70). -/
theorem State.checkComplete_keeps (f : Round → Bool) : s.keepsAllBut (s.checkComplete f) [.window] :=
  fun b hb => by cases b <;> simp_all [State.sameBlock, State.checkComplete]

/-- The completeness condition as the check tests it (R70). -/
theorem Round.checked_eq (v : ChannelSet) (r : Round) :
    r.checked v = if r.isOpen && r.isComplete v then { r with sealedBy := some ⟨.allIn, v⟩ } else r := by
  unfold Round.checked
  refine if_congr ?_ rfl rfl
  simp only [Round.isOpen, Round.isComplete, Bool.and_eq_true, bne_iff_ne, Option.isNone_iff_eq_none,
    ChannelSet.within_iff, Channel.forall_mem_all]

/-- Each selected round is as the completeness check leaves it; the others stay (R70, R71). -/
theorem State.checkComplete_rounds (f : Round → Bool) :
    (s.checkComplete f).window.rounds = s.window.rounds.map fun r => if f r then r.checked s.votingSet else r := by
  refine List.map_congr_left fun r _ => ?_
  cases f r <;> simp [Round.checked_eq]

theorem State.checkIfVotingChanged_keeps (before : State) :
    s.keepsAllBut (State.checkIfVotingChanged before s) [.window] := by
  unfold State.checkIfVotingChanged
  split
  · exact .refl s _
  · exact s.checkComplete_keeps _

theorem State.recomputeGroup_keeps : s.keepsAllBut s.recomputeGroup [.groupState, .outbox] := by
  unfold State.recomputeGroup
  simp only
  split
  · exact .refl s _
  · exact fun b hb => by cases b <;> simp_all [State.sameBlock]

/-- The group state recomputed is the one that the configuration and the VOTING set give (R51). -/
theorem State.recomputeGroup_groupState : s.recomputeGroup.groupState = s.derivedGroupState := by
  simp only [State.recomputeGroup]
  split
  · next h => exact h.symm
  · rfl

theorem State.settleMembership_keeps (before : State) :
    s.keepsAllBut (State.settleMembership before s) [.window, .groupState, .outbox] :=
  ((s.checkIfVotingChanged_keeps before).mono (by decide)).trans
    ((State.recomputeGroup_keeps _).mono (by decide))

/-! ## Departures and exclusions -/

theorem State.emptyQueue_keeps (ch : Channel) : s.keepsAllBut (s.emptyQueue ch) [.window] :=
  fun b hb => by cases b <;> simp_all [State.sameBlock]

theorem State.dropFoundingExpiry_keeps (k : Byte) : s.keepsAllBut (s.dropFoundingExpiry k) [.timer] :=
  fun b hb => by cases b <;> simp_all [State.sameBlock]

theorem State.removeEntry_keeps (k : Byte) : s.keepsAllBut (s.removeEntry k) [.changes] :=
  fun b hb => by cases b <;> simp_all [State.sameBlock]

theorem State.modEntry_keeps (k : Byte) (f : ChangeEntry → ChangeEntry) : s.keepsAllBut (s.modEntry k f) [.changes] :=
  fun b hb => by cases b <;> simp_all [State.sameBlock]

theorem State.countVoid_keeps : s.keepsAllBut s.countVoid [.part] :=
  fun b hb => by cases b <;> simp_all [State.sameBlock]

/-- A voided entry is gone with its founding expiry, reported and counted, and nothing else changes (R28, R108). -/
theorem State.voidEntry_keeps (k : Nat) (r : VoidReason) (ticket : Byte) :
    s.keepsAllBut (s.voidEntry k r ticket) [.timer, .changes, .part, .outbox] :=
  (((s.removeEntry_keeps ticket).mono (by decide)).trans
    ((State.dropFoundingExpiry_keeps _ ticket).mono (by decide))).trans
    (((State.broadcastAt_keeps _ k _).mono (by decide)).trans ((State.countVoid_keeps _).mono (by decide)))

theorem State.departFrom_keeps (ch : Channel) (e : ChangeEntry) :
    s.keepsAllBut (State.departFrom ch s e) [.timer, .changes, .part, .outbox] := by
  unfold State.departFrom
  split
  · exact s.voidEntry_keeps _ _ _
  · split
    · exact ((s.modEntry_keeps _ _).mono (by decide)).trans ((State.broadcast_keeps _ _).mono (by decide))
    · exact .refl s _

/-- A departure reaches the Change Table alone (R141). -/
theorem State.depart_keeps (ch : Channel) (f : ChangeEntry → Bool) :
    s.keepsAllBut (s.depart ch f) [.timer, .changes, .part, .outbox] :=
  .foldl (fun s e => State.departFrom_keeps s ch e) _ s

theorem State.leaveVoters_keeps (ch : Channel) (was : ChannelState) :
    s.keepsAllBut (s.leaveVoters ch was) [.timer, .window, .changes, .part, .outbox] := by
  have h : s.keepsAllBut (if was.isVoter then s.emptyQueue ch else s) [.timer, .window, .changes, .part, .outbox] := by
    split
    · exact (s.emptyQueue_keeps ch).mono (by decide)
    · exact .refl s _
  unfold State.leaveVoters
  simp only
  split
  · exact h.trans ((State.depart_keeps _ ch _).mono (by decide))
  · exact h

/-- What an exclusion can change (R37, R46). -/
theorem State.excludeChannel_keeps (reason : ExclusionReason) (ch : Channel) :
    s.keepsAllBut (s.excludeChannel reason ch) [.timer, .members, .window, .standing, .changes, .part, .outbox] :=
  (((s.modMember_keeps ch _).mono (by decide)).trans ((State.count_keeps _ ch _).mono (by decide))).trans
    (((State.broadcast_keeps _ _).mono (by decide)).trans ((State.leaveVoters_keeps _ ch _).mono (by decide)))

/-- A weight moves its channel's score, and may send it ADVISORY (R101, R102). -/
theorem State.weigh_keeps (ch : Channel) (w : Int) : s.keepsAllBut (s.weigh ch w).1 [.standing, .outbox] := by
  unfold State.weigh
  split
  · have h := (s.modStanding_keeps ch fun st => { st with score := weighted (s.standing.get ch).score w }).mono
      (m := [.standing, .outbox]) (by decide)
    simp only
    split
    · split
      · exact h
      · exact h.trans ((State.send_keeps _ ch _).mono (by decide))
      · exact h
    · exact h
  · exact .refl s _

theorem State.weighAndExclude_keeps (ch : Channel) (w : Int) :
    s.keepsAllBut (s.weighAndExclude ch w)
      [.timer, .members, .groupState, .window, .standing, .changes, .part, .outbox] := by
  have h := (s.weigh_keeps ch w).mono
    (m := [.timer, .members, .groupState, .window, .standing, .changes, .part, .outbox]) (by decide)
  unfold State.weighAndExclude
  simp only
  split
  · refine (h.trans ((State.excludeChannel_keeps _ _ _).mono ?_)).trans ((State.settleMembership_keeps _ _).mono ?_)
    all_goals decide
  · exact h

/-- What the loss of a link can change beyond the port itself (R36, R37). -/
theorem State.linkLoss_keeps (ch : Channel) :
    s.keepsAllBut (s.linkLoss ch) [.timer, .members, .groupState, .window, .standing, .changes, .part, .outbox] := by
  have excluded := ((s.excludeChannel_keeps .linkLost ch).mono
    (m := [.timer, .members, .groupState, .window, .standing, .changes, .part, .outbox]) (by decide)).trans
      ((State.settleMembership_keeps _ s).mono (by decide))
  have detached := (s.modMember_keeps ch fun m => { m with state := .detached, probationRun := 0 }).mono
    (m := [.timer, .members, .groupState, .window, .standing, .changes, .part, .outbox]) (by decide)
  unfold State.linkLoss
  simp only
  split
  · exact excluded
  · exact excluded
  · exact excluded
  · split
    · exact detached.trans ((State.depart_keeps _ ch _).mono (by decide))
    · exact detached
  · split
    · exact detached.trans ((State.depart_keeps _ ch _).mono (by decide))
    · exact detached
  · split
    · exact detached.trans ((State.depart_keeps _ ch _).mono (by decide))
    · exact detached
  · exact .refl s _

/-! ## The line -/

/-- A byte's ten bits, wherever they begin on the line, give back the byte (R171). -/
theorem receivedBytes_bitsOnLine (b : Byte) (rest : List Bool) :
    receivedBytes (bitsOnLine b ++ rest) = ⟨b, false⟩ :: receivedBytes rest := by
  have h : ∀ b : Byte, BitVec.ofBoolListLE [b.getLsbD 0, b.getLsbD 1, b.getLsbD 2, b.getLsbD 3, b.getLsbD 4,
      b.getLsbD 5, b.getLsbD 6, b.getLsbD 7] = b := by decide
  simp only [bitsOnLine, List.cons_append, List.nil_append, receivedBytes, h, Bool.not_true]

/-- The line at rest brings no byte (R171). -/
theorem receivedBytes_rest (n : Nat) (rest : List Bool) :
    receivedBytes (List.replicate n restLevel ++ rest) = receivedBytes rest := by
  induction n with
  | zero => rfl
  | succ n ih => exact ih

end Sys2Proof.Machine
end

