-- ==== Sys2Proof/Laws/Events.lean ====
section
/-!
SUPPORT. What the larger shared operations of Machine/ can change: the parts of a close, the reactions to a mark, the
commits and the judgement of frames.
-/

namespace Sys2Proof.Machine

variable (s : State)

/-! ## A close (R76, R97, R98) -/

theorem State.moveOutput_keeps (o : RoundOutcome) : s.keepsAllBut (s.moveOutput o) [.output, .outbox] := by
  unfold State.moveOutput
  split
  · simp only
    split <;> exact fun b hb => by cases b <;> simp_all [State.sameBlock]
  · exact .refl s _

/-- SAFE_N follows the output state at every transition (R114). -/
theorem State.moveOutput_safeN (o : RoundOutcome) (h : s.output.safeN = s.output.state.safeNLevel) :
    (s.moveOutput o).output.safeN = (s.moveOutput o).output.state.safeNLevel := by
  unfold State.moveOutput
  split
  · simp only
    split <;> rfl
  · exact h

theorem State.queueDecision_keeps (d : Decision) : s.keepsAllBut (s.queueDecision d) [.output, .part] := by
  unfold State.queueDecision
  split
  · exact fun b hb => by cases b <;> simp_all [State.sameBlock]
  · split <;> exact fun b hb => by cases b <;> simp_all [State.sameBlock]

/-- The output queue holds at most two frames once one has joined it (R122). -/
theorem State.queueDecision_length (d : Decision) (h : s.output.queue.length ≤ 2) :
    (s.queueDecision d).output.queue.length ≤ 2 := by
  unfold State.queueDecision
  split
  · exact h
  · split
    · simp only [List.length_append, List.length_singleton]
      omega
    · simp only [List.length_append, List.length_tail, List.length_singleton]
      omega

theorem State.offerVerdict_keeps (ch : Channel) (v : Verdict) : s.keepsAllBut (s.offerVerdict ch v) [.ports, .standing] := by
  unfold State.offerVerdict
  split
  · simp only
    split
    · exact (s.modPort_keeps ch _).mono (by decide)
    · exact ((s.modPort_keeps ch _).mono (by decide)).trans ((State.count_keeps _ ch _).mono (by decide))
  · exact .refl s _

theorem State.sendVerdict_keeps (res : RoundResult) (items : List ItemResult) (ch : Channel) :
    s.keepsAllBut (State.sendVerdict res items s ch) [.ports, .standing] := by
  unfold State.sendVerdict
  split
  · exact s.offerVerdict_keeps ch _
  · exact .refl s _

theorem State.writeHistory_keeps (r : DecisionRecord) : s.keepsAllBut (s.writeHistory r) [.history] :=
  fun b hb => by cases b <;> simp_all [State.sameBlock]

/-- The DECISION, the history record and the VERDICTs of a close (R126). -/
theorem State.produce_keeps (res : RoundResult) :
    s.keepsAllBut (s.produce res) [.output, .part, .history, .ports, .standing] :=
  (((s.queueDecision_keeps _).mono (by decide)).trans ((State.writeHistory_keeps _ _).mono (by decide))).trans
    ((State.keepsAllBut.foldl (fun s ch => State.sendVerdict_keeps s res _ ch) _ _).mono (by decide))

theorem State.removeRound_keeps (c : Cycle) : s.keepsAllBut (s.removeRound c) [.window] :=
  fun b hb => by cases b <;> simp_all [State.sameBlock, State.removeRound]

theorem State.countDecision_keeps : s.keepsAllBut s.countDecision [.part] :=
  fun b hb => by cases b <;> simp_all [State.sameBlock]

theorem weighClass_keeps (res : PerChannel (Option ChannelResult)) (acc : State × List Channel) (ch : Channel) :
    acc.1.keepsAllBut (weighClass res acc ch).1 [.standing, .outbox] := by
  unfold weighClass
  split
  · exact ((State.count_keeps _ ch _).mono (by decide)).trans (State.weigh_keeps _ ch _)
  · exact .refl _ _

/-- The weights of a close move scores and counters, and may send ADVISORY (R103). -/
theorem State.weighClose_keeps (res : PerChannel (Option ChannelResult)) :
    s.keepsAllBut (s.weighClose res).1 [.standing, .outbox] := by
  suffices h : ∀ (l : List Channel) (acc : State × List Channel),
      acc.1.keepsAllBut (l.foldl (weighClass res) acc).1 [.standing, .outbox] from h Channel.all (s, [])
  intro l
  induction l with
  | nil => exact fun acc => .refl _ _
  | cons ch l ih => exact fun acc => (weighClass_keeps res acc ch).trans (ih _)

theorem State.updateProbation_keeps (res : RoundResult) (ch : Channel) :
    s.keepsAllBut (State.updateProbation res s ch) [.members, .outbox] := by
  unfold State.updateProbation
  simp only
  split
  · split
    · split
      · exact ((s.modMember_keeps ch _).mono (by decide)).trans ((State.send_keeps _ ch _).mono (by decide))
      · exact (s.modMember_keeps ch _).mono (by decide)
    · exact .refl s _
  · exact .refl s _

theorem State.closeMembership_keeps (res : RoundResult) (claims : List Channel) :
    s.keepsAllBut (s.closeMembership res claims)
      [.timer, .members, .groupState, .window, .standing, .changes, .part, .outbox] := by
  refine (State.keepsAllBut.trans (.foldl (fun s ch => (s.excludeChannel_keeps .score ch).mono ?_) _ s)
    (.foldl (fun s ch => (s.updateProbation_keeps res ch).mono ?_) _ _)).trans
      ((State.settleMembership_keeps _ s).mono ?_)
  all_goals decide

/-! ## The reactions to a mark (R24) -/

theorem State.placeMark_keeps (ch : Channel) (f : MarkFrame) : s.keepsAllBut (s.placeMark ch f) [.standing, .ports] := by
  unfold State.placeMark
  simp only
  split
  · exact ((s.count_keeps ch _).mono (by decide)).trans ((State.modPort_keeps _ ch _).mono (by decide))
  · exact (s.modPort_keeps ch _).mono (by decide)

/-- A port's mark reaches its mark slot and its marks_skipped counter (R25, R156). -/
theorem State.portTakesMark_keeps (ch : Channel) (c : Cycle) :
    s.keepsAllBut (s.portTakesMark ch c) [.standing, .ports] := by
  unfold State.portTakesMark
  split
  · exact s.placeMark_keeps ch _
  · exact .refl s _

theorem State.countHoldoff_keeps (ch : Channel) : s.keepsAllBut (s.countHoldoff ch) [.members] := s.modMember_keeps ch _

theorem State.stepCandidate_keeps (g : GroupState) (ch : Channel) :
    s.keepsAllBut (State.stepCandidate g s ch) [.members, .outbox] := by
  unfold State.stepCandidate
  split
  · split
    · exact (s.modMember_keeps ch _).mono (by decide)
    · exact ((s.modMember_keeps ch _).mono (by decide)).trans ((State.send_keeps _ ch _).mono (by decide))
    · exact .refl s _
  · exact .refl s _

theorem State.candidateStep_keeps : s.keepsAllBut s.candidateStep [.members, .window, .groupState, .outbox] := by
  unfold State.candidateStep
  split
  · refine (State.keepsAllBut.foldl (fun s ch => (State.stepCandidate_keeps s _ ch).mono ?_) _ _).trans
      ((State.settleMembership_keeps _ _).mono ?_)
    all_goals decide
  · exact .refl s _

/-- The Membership Table's reaction to a mark (R42, R47). -/
theorem State.membersTakeMark_keeps : s.keepsAllBut s.membersTakeMark [.members, .window, .groupState, .outbox] := by
  unfold State.membersTakeMark
  exact ((State.keepsAllBut.foldl (fun s ch => State.countHoldoff_keeps s ch) Channel.all s).mono (by decide)).trans
    (State.candidateStep_keeps _)

/-- The Change Table's reaction to a mark (R142). -/
theorem State.changesTakeMark_keeps (c : Cycle) :
    s.keepsAllBut (s.changesTakeMark c) [.timer, .changes, .part, .outbox] := by
  unfold State.changesTakeMark
  exact State.keepsAllBut.foldl (f := fun s (e : ChangeEntry) => s.voidEntry 0 .expired e.ticket)
    (fun s e => s.voidEntry_keeps 0 .expired e.ticket) _ s

theorem State.demote_keeps (members : ChannelSet) (ch : Channel) :
    s.keepsAllBut (State.demote members s ch) [.timer, .members, .window, .changes, .part, .outbox] := by
  unfold State.demote
  simp only
  split
  · exact ((s.modMember_keeps ch _).mono (by decide)).trans ((State.leaveVoters_keeps _ ch _).mono (by decide))
  · exact .refl s _

/-- What a GROUP activation can change beyond the installation (R54, R105). -/
theorem State.activateGroup_keeps (r : GroupRecord) :
    s.keepsAllBut (s.activateGroup r)
      [.timer, .members, .groupState, .window, .standing, .changes, .part, .outbox] := by
  unfold State.activateGroup
  refine ((State.keepsAllBut.foldl (fun s ch => (State.demote_keeps s r.members ch).mono ?_) _ _).trans
    (State.keepsAllBut.foldl (fun s ch => (State.excludeChannel_keeps s .score ch).mono ?_) _ _)).trans
    ((State.settleMembership_keeps _ _).mono ?_)
  all_goals decide

/-- What an activation leaves in the Configuration Store: the installation of R10, and at a SCHEMA activation the item
state table and the boundary of R15. -/
theorem State.activate_store (w : Awaiting) :
    (s.activate w).store =
      if w.kind = .schema then (s.install w).store.activateSchema w.config.firstCycle else (s.install w).store := by
  have hb : (s.activate w).store = (State.activateKind (s.install w).dropCommitted w).store :=
    State.broadcast_keeps _ _ .store (by decide)
  rw [hb]
  unfold State.activateKind
  cases w.kind with
  | group => exact State.activateGroup_keeps _ _ .store (by decide)
  | schema => exact State.recomputeGroup_keeps _ .store (by decide)
  | pardon ch => rfl

/-! ## Links (R151 to R154) -/

theorem State.linkUp_keeps (ch : Channel) : s.keepsAllBut (s.linkUp ch) [.members] := s.modMember_keeps ch _

theorem State.goodInHunt_keeps (ch : Channel) : s.keepsAllBut (s.goodInHunt ch) [.standing, .ports, .members] := by
  unfold State.goodInHunt
  simp only
  split
  · exact ((s.count_keeps ch _).mono (by decide)).trans ((State.modPort_keeps _ ch _).mono (by decide))
  · exact (((s.count_keeps ch _).mono (by decide)).trans ((State.modPort_keeps _ ch _).mono (by decide))).trans
      ((State.linkUp_keeps _ ch).mono (by decide))

/-- The leaving of UP (R154): the port, its counter, and what the Membership Table makes of the loss. -/
theorem State.leaveUp_keeps (ch : Channel) (line : LineState) :
    s.keepsAllBut (s.leaveUp ch line)
      [.ports, .timer, .members, .groupState, .window, .standing, .changes, .part, .outbox] := by
  have counted : s.keepsAllBut (if (s.ports.get ch).markSlot.isSome then s.count ch .marksSkipped else s)
      [.ports, .timer, .members, .groupState, .window, .standing, .changes, .part, .outbox] := by
    split
    · exact (s.count_keeps ch _).mono (by decide)
    · exact .refl s _
  exact (counted.trans ((State.modPort_keeps _ ch _).mono (by decide))).trans
    ((State.linkLoss_keeps _ ch).mono (by decide))

theorem State.judgedBad_keeps (ch : Channel) :
    s.keepsAllBut (s.judgedBad ch)
      [.ports, .timer, .members, .groupState, .window, .standing, .changes, .part, .outbox] := by
  unfold State.judgedBad
  split
  · exact .refl s _
  · exact ((s.count_keeps ch _).mono (by decide)).trans ((State.modPort_keeps _ ch _).mono (by decide))
  · have h : s.keepsAllBut ((s.count ch .framesBad).weighAndExclude ch 2)
        [.ports, .timer, .members, .groupState, .window, .standing, .changes, .part, .outbox] :=
      ((s.count_keeps ch _).mono (by decide)).trans ((State.weighAndExclude_keeps _ ch 2).mono (by decide))
    unfold State.badInUp
    simp only
    split
    · exact h.trans ((State.modPort_keeps _ ch _).mono (by decide))
    · exact h.trans (State.leaveUp_keeps _ ch _)

/-! ## Requests -/

theorem State.enrol_keeps (ch : Channel) (a : Announcement) :
    s.keepsAllBut (s.enrol ch a) [.members, .standing, .outbox] :=
  (((s.modMember_keeps ch _).mono (by decide)).trans ((State.modStanding_keeps _ ch _).mono (by decide))).trans
    (((State.count_keeps _ ch _).mono (by decide)).trans ((State.send_keeps _ ch _).mono (by decide)))

/-- An ANNOUNCE reaches the members and the standing, and answers (R38, R39). -/
theorem State.takeAnnounce_keeps (ch : Channel) (p : List Byte) :
    s.keepsAllBut (s.takeAnnounce ch p) [.members, .standing, .outbox] := by
  unfold State.takeAnnounce
  split
  · exact (s.refuse_keeps ch _ _).mono (by decide)
  · split
    · exact (s.refuse_keeps ch _ _).mono (by decide)
    · exact s.enrol_keeps ch _

/-- A PROPOSAL reaches the window, and the standing with what an exclusion claim brings about (R63, R66). -/
theorem State.takeProposal_keeps (ch : Channel) (p : List Byte) :
    s.keepsAllBut (s.takeProposal ch p)
      [.timer, .members, .groupState, .window, .standing, .changes, .part, .outbox] := by
  have counted : ∀ n, s.keepsAllBut (s.count ch n)
      [.timer, .members, .groupState, .window, .standing, .changes, .part, .outbox] :=
    fun n => (s.count_keeps ch n).mono (by decide)
  have weighed : ∀ n w, s.keepsAllBut ((s.count ch n).weighAndExclude ch w)
      [.timer, .members, .groupState, .window, .standing, .changes, .part, .outbox] :=
    fun n w => (counted n).trans (State.weighAndExclude_keeps _ ch w)
  unfold State.takeProposal
  split
  · exact counted _
  · split
    · exact weighed _ _
    · exact counted _
    · unfold State.sortProposal
      simp only
      split
      · exact weighed _ _
      · exact counted _
      · split
        · exact weighed _ _
        · split
          · exact weighed _ _
          · split
            · exact counted _
            · split
              · exact counted _
              · intro b hb
                cases b <;> simp_all [State.sameBlock, State.queueProposal, State.checkComplete]

/-- A READ reaches the reader's reply slot and, with CLEAR, its counters (R109, R162). -/
theorem State.takeRead_keeps (ch : Channel) (p : List Byte) :
    s.keepsAllBut (s.takeRead ch p) [.ports, .standing, .outbox] := by
  unfold State.takeRead
  split
  · exact (s.refuse_keeps ch _ _).mono (by decide)
  · split
    · exact (s.refuse_keeps ch _ _).mono (by decide)
    · unfold State.answerRead
      simp only
      split
      · exact ((s.modPort_keeps ch _).mono (by decide)).trans ((State.modStanding_keeps _ ch _).mono (by decide))
      · exact (s.modPort_keeps ch _).mono (by decide)

/-! ## A mark (R22, R24) -/

/-- With every mark taken nothing is owed (R60). -/
theorem State.takeOwed_of_none (h : s.timer.offers = []) : s.takeOwed = s := by simp [State.takeOwed, h]

/-- A mark taken by several blocks is taken by one after another (R24). -/
theorem execMark_takes_cons (b : MarkTaker) (l : List MarkTaker) :
    execMark (.takes (b :: l)) s = execMark (.takes l) (s.takeMark b) := rfl

end Sys2Proof.Machine
end

