-- ==== Sys2Proof/WellFormed.lean ====
section
/-!
DEFINITION. Which commands are events that can happen at the part's links and pins.
-/

namespace Sys2Proof

open Machine

/-- The blocks that a mark is offered to, each once (R24). -/
def MarkEvent.wellFormed : MarkEvent → Bool
  | .opens takers => decide takers.Nodup
  | .takes takers => decide takers.Nodup && takers ≠ []

/-- A command is well formed when a mark names each block at most once (R24), a good frame's payload fits the frame
and the 300 byte times (R149, R171), a ticket is one of 1 to 255 (R127), and a kind code said to be unknown is not
one the part takes (R153). -/
def Instr.wellFormed : Instr → Bool
  | .mark event => event.wellFormed
  | .foundingExpiry ticket => ticket ≠ 0#8
  | .announce _ payload => deliverable 0x11#8 payload
  | .leave _ payload => deliverable 0x12#8 payload
  | .proposal _ payload => deliverable 0x13#8 payload
  | .change _ payload => deliverable 0x14#8 payload
  | .concur _ payload => deliverable 0x15#8 payload
  | .retract _ payload => deliverable 0x16#8 payload
  | .read _ payload => deliverable 0x17#8 payload
  | .unknownKind _ kind => !(takenKinds.contains kind)
  | .powerOn _ | .warmReset | .resetRelease | .deadlineExpiry _ | .lineActivity _ _ | .lineQuiet _
  | .huntFrame _ _ | .badFrame _ | .frameAbort _ | .transmissionEnd _ | .transmitChoice _
  | .outputTransmissionEnd | .close => true

end Sys2Proof
end

