-- ==== Sys2Proof/Laws/PerInstr.lean ====
section
/-!
SUPPORT. What `Instr.wellFormed` asks of each command, in words of the manual: one lemma per constructor, for statements
over all commands.
-/

namespace Sys2Proof.Laws.WellFormedMeans

open Sys2Proof.Machine

/-- What well-formedness asks of a command. -/
def Statement (i : Instr) : Prop :=
  i.wellFormed = true ↔
    match i with
    | .mark (.opens takers) => takers.Nodup
    | .mark (.takes takers) => takers.Nodup ∧ takers ≠ []
    | .foundingExpiry ticket => ticket ≠ 0#8
    | .announce _ payload => payload.length ≤ 255 ∧ (bodyOnLine 0x11#8 payload).length < 300
    | .leave _ payload => payload.length ≤ 255 ∧ (bodyOnLine 0x12#8 payload).length < 300
    | .proposal _ payload => payload.length ≤ 255 ∧ (bodyOnLine 0x13#8 payload).length < 300
    | .change _ payload => payload.length ≤ 255 ∧ (bodyOnLine 0x14#8 payload).length < 300
    | .concur _ payload => payload.length ≤ 255 ∧ (bodyOnLine 0x15#8 payload).length < 300
    | .retract _ payload => payload.length ≤ 255 ∧ (bodyOnLine 0x16#8 payload).length < 300
    | .read _ payload => payload.length ≤ 255 ∧ (bodyOnLine 0x17#8 payload).length < 300
    | .unknownKind _ kind => kind ∉ takenKinds
    | .powerOn _ | .warmReset | .resetRelease | .deadlineExpiry _ | .lineActivity _ _ | .lineQuiet _ | .huntFrame _ _
    | .badFrame _ | .frameAbort _ | .transmissionEnd _ | .transmitChoice _ | .outputTransmissionEnd | .close => True

/-- A payload fits a frame when its length fits the length byte and the frame ends within 300 byte times. -/
theorem deliverable_iff (kind : Byte) (payload : List Byte) :
    deliverable kind payload = true ↔ payload.length ≤ 255 ∧ (bodyOnLine kind payload).length < 300 := by
  simp only [deliverable, Bool.and_eq_true, decide_eq_true_eq]
  exact Iff.rfl

theorem powerOn (resetHigh : Bool) : Statement (.powerOn resetHigh) := by simp [Statement, Instr.wellFormed]

theorem warmReset : Statement .warmReset := by simp [Statement, Instr.wellFormed]

theorem resetRelease : Statement .resetRelease := by simp [Statement, Instr.wellFormed]

theorem mark (event : MarkEvent) : Statement (.mark event) := by
  cases event <;> simp [Statement, Instr.wellFormed, MarkEvent.wellFormed]

theorem deadlineExpiry (cycle : Cycle) : Statement (.deadlineExpiry cycle) := by simp [Statement, Instr.wellFormed]

theorem foundingExpiry (ticket : Byte) : Statement (.foundingExpiry ticket) := by simp [Statement, Instr.wellFormed]

theorem lineActivity (ch : Channel) (byte : RxByte) : Statement (.lineActivity ch byte) := by
  simp [Statement, Instr.wellFormed]

theorem lineQuiet (ch : Channel) : Statement (.lineQuiet ch) := by simp [Statement, Instr.wellFormed]

theorem huntFrame (ch : Channel) (good : Bool) : Statement (.huntFrame ch good) := by simp [Statement, Instr.wellFormed]

theorem badFrame (ch : Channel) : Statement (.badFrame ch) := by simp [Statement, Instr.wellFormed]

theorem frameAbort (ch : Channel) : Statement (.frameAbort ch) := by simp [Statement, Instr.wellFormed]

theorem announce (ch : Channel) (payload : List Byte) : Statement (.announce ch payload) := deliverable_iff _ _

theorem leave (ch : Channel) (payload : List Byte) : Statement (.leave ch payload) := deliverable_iff _ _

theorem proposal (ch : Channel) (payload : List Byte) : Statement (.proposal ch payload) := deliverable_iff _ _

theorem change (ch : Channel) (payload : List Byte) : Statement (.change ch payload) := deliverable_iff _ _

theorem concur (ch : Channel) (payload : List Byte) : Statement (.concur ch payload) := deliverable_iff _ _

theorem retract (ch : Channel) (payload : List Byte) : Statement (.retract ch payload) := deliverable_iff _ _

theorem read (ch : Channel) (payload : List Byte) : Statement (.read ch payload) := deliverable_iff _ _

theorem unknownKind (ch : Channel) (kind : Byte) : Statement (.unknownKind ch kind) := by
  simp [Statement, Instr.wellFormed]

theorem transmissionEnd (ch : Channel) : Statement (.transmissionEnd ch) := by simp [Statement, Instr.wellFormed]

theorem transmitChoice (ch : Channel) : Statement (.transmitChoice ch) := by simp [Statement, Instr.wellFormed]

theorem outputTransmissionEnd : Statement .outputTransmissionEnd := by simp [Statement, Instr.wellFormed]

theorem close : Statement .close := by simp [Statement, Instr.wellFormed]

end Sys2Proof.Laws.WellFormedMeans
end

