-- ==== Sys2Proof/Tests/Slice0.lean ====
section
/-!
SUPPORT. The model's own tests. First the worked values of spec/ and one small step for each family of commands; then, for
each statement that has hypotheses, a concrete state and operands that meet them together (`witness_<statement>`).
-/

namespace Sys2Proof.Tests

-- One theorem after another: many kernel evaluations at once would need a thread each.
set_option Elab.async false

open Machine

/-! ## Well-formedness refuses -/

theorem test_mark_taken_twice_is_ill_formed :
    (Instr.mark (.opens [.store, .store])).wellFormed = false := by decide

theorem test_mark_taken_by_none_is_ill_formed : (Instr.mark (.takes [])).wellFormed = false := by decide

theorem test_mark_taken_twice_later_is_ill_formed :
    (Instr.mark (.takes [.membership, .membership])).wellFormed = false := by decide

theorem test_ticket_zero_is_ill_formed : (Instr.foundingExpiry 0).wellFormed = false := by decide

theorem test_known_kind_is_no_unknown_kind : (Instr.unknownKind .a 0x17).wellFormed = false := by decide

theorem long_frame_is_undeliverable (kind : Byte) (n : Nat) (hn : 150 ≤ n) :
    deliverable kind (List.replicate n 0xC5#8) = false := by
  have h : (escaped 0xC5#8).length = 2 := by decide
  have : 300 ≤ (bodyOnLine kind (List.replicate n 0xC5#8)).length := by
    simp only [bodyOnLine, frameBody, List.flatMap_append, List.flatMap_cons, List.length_append, List.length_flatMap,
      List.map_replicate, h, List.sum_replicate_nat]
    omega
  rw [deliverable, Bool.and_eq_false_iff]
  exact .inr (decide_eq_false (by unfold frameLimit; omega))

/-- A payload of 150 bytes that all need escaping does not end within 300 byte times (R149, R171). -/
theorem test_long_escaped_payloads_are_ill_formed (ch : Channel) :
    ∀ i ∈ [Instr.announce ch (List.replicate 150 0xC5), .leave ch (List.replicate 150 0xC5),
      .proposal ch (List.replicate 150 0xC5), .change ch (List.replicate 150 0xC5),
      .concur ch (List.replicate 150 0xC5), .retract ch (List.replicate 150 0xC5),
      .read ch (List.replicate 150 0xC5)], i.wellFormed = false := by
  intro i hi
  simp only [List.mem_cons, List.not_mem_nil, or_false] at hi
  rcases hi with rfl | rfl | rfl | rfl | rfl | rfl | rfl <;>
    exact long_frame_is_undeliverable _ 150 (Nat.le_refl _)

theorem test_payload_over_255_is_ill_formed :
    (Instr.change .a (List.replicate 256 0)).wellFormed = false := by decide +kernel

/-! ## Decoding: the table gives no bits -/

theorem test_no_word_spells_a_command : decodeTableWord 16 0 = none := by decide

theorem test_fetch_word_changes_nothing : State.reset.withFetchWord 16 0 = State.reset := by decide

/-! ## Worked values of spec/ -/

/-- The digits 1 to 9 in character code (R172). -/
def digits : List Byte := [0x31, 0x32, 0x33, 0x34, 0x35, 0x36, 0x37, 0x38, 0x39]

theorem test_crc16_of_the_digits : crc16 digits = 0x29B1#16 := by decide +kernel

theorem test_crc32_of_the_digits : crc32 digits = 0x0376E6E7#32 := by decide +kernel

theorem test_crc32_of_no_bytes : crc32 [] = 0xFFFFFFFF#32 := by decide

/-- The record of the example of R174. -/
def record : GroupRecord where
  members := ⟨true, true, true, false⟩
  itemQuorum := 2
  changeQuorum := 2
  period := 1000
  deadlineOffset := 800
  changeWindow := 64
  warnLevel := 32
  excludeLevel := 64
  probationRounds := 16
  holdoffCycles := 256
  safeAfter := 3
  recoverAfter := 8

/-- The one-item schema of the example of R174. -/
def schema : List SchemaItem := [⟨.exact, .unsigned, 0, .hold, 0⟩]

theorem test_record_encodes_as_the_example :
    encodeRecord record =
      [0x07, 0x02, 0x02, 0x03, 0xE8, 0x00, 0x03, 0x20, 0x00, 0x40, 0x20, 0x40, 0x10, 0x01, 0x00, 0x03, 0x08] := by
  decide +kernel

theorem test_schema_encodes_as_the_example :
    encodeSchema schema = [0x01, 0x00, 0x00, 0x00, 0x00, 0x00, 0x00, 0x00] := by decide +kernel

theorem test_cycle_order_wraps : older 0xFFFFFFFF#32 3#32 = true := by decide

theorem test_half_range_is_neither : older 5#32 0x80000005#32 = false ∧ older 0x80000005#32 5#32 = false := by decide

/-- The example of R85: two patterns share the largest count, so the item is not accepted. -/
theorem test_shared_count_is_not_accepted :
    (⟨.exact, .unsigned, 0, .hold, 0⟩ : SchemaItem).vote 2 [10, 10, 12, 12] = none := by decide

/-- The patterns of R86, −20 and 30 when read SIGNED, lie 50 apart. -/
theorem test_signed_distance : (⟨.band, .signed, 0, .hold, 0⟩ : SchemaItem).distance 0xFFEC 0x001E = 50 := by decide

theorem test_unsigned_distance : (⟨.band, .unsigned, 0, .hold, 0⟩ : SchemaItem).distance 0xFFEC 0x001E = 65486 := by
  decide

/-- An even list is decided at the lower of its two middle values (R87). -/
theorem test_lower_median : (⟨.band, .unsigned, 5, .hold, 0⟩ : SchemaItem).vote 2 [9, 4, 6, 1] = some 4 := by decide

theorem test_safe_after_one_goes_straight_to_safe :
    (OutputRuns.after ⟨.live, 0, 0⟩ .void 1 8).state = .safe := by decide

theorem test_ticket_after_255_is_1 : ChangeTable.nextTicket ⟨[], 255⟩ = 1 := by decide

/-- 0xC5 is 11000101; the start bit goes first, then the least significant data bit, and the stop bit last (R171). -/
theorem test_bits_of_the_delimiter :
    bitsOnLine 0xC5 = [false, true, false, true, false, false, false, true, true, true] := by decide

theorem test_low_stop_bit_is_a_framing_error :
    receivedBytes [true, false, true, false, true, false, false, false, true, true, false, true] = [⟨0xC5, true⟩] := by
  decide

theorem test_abandoned_transmission_ends_with_escape_and_delimiter :
    Transmitter.bytes .abandoned = [0xCA, 0xC5] := by decide

/-! ## Sample states -/

/-- The state after a command. -/
def after (i : Instr) (s : State) : State :=
  match exec i s with
  | .next t => t
  | .fault _ | .refused _ => s

/-- All the conditions of a sound state, to be evaluated. -/
def soundCheck (s : State) : Bool :=
  s.bounded && s.store.sound && s.groupAgrees && s.output.sound && s.linksAgree && s.membersSound && s.scoresSound
    && s.roundsRun && s.queuesSound && s.completeAreSealed && s.historyRuns && s.changesSound && s.outboxEmpty

theorem sound_of_check {s : State} (h : soundCheck s = true) : Sound s := by
  simp only [soundCheck, Bool.and_eq_true] at h
  obtain ⟨⟨⟨⟨⟨⟨⟨⟨⟨⟨⟨⟨a, b⟩, c⟩, d⟩, e⟩, f⟩, g⟩, i⟩, j⟩, k⟩, l⟩, m⟩, n⟩ := h
  exact ⟨a, b, c, d, e, f, g, i, j, k, l, m, n⟩

/-- The founded configuration of the example. -/
def configuration : Configuration := ⟨record, schema, 1, configurationDigest record schema, 0⟩

/-- A port in UP with nothing waiting. -/
def upPort : Port := { Port.reset with line := .up, receiver := .inFrame [] 0 }

/-- A channel in a state with nothing else to its name. -/
def member (st : ChannelState) : Member := { Member.reset with state := st }

/-- An ACTIVE group at N = 5 with A, B and C VOTING, D LINKED and no round present. -/
def running : State :=
  { State.reset with
    store := { Store.reset with installed := some configuration, retainedNextCycle := some 5 }
    timer := { Timer.reset with tickCount := 7000, running := some ⟨5, 7500, 1000, 800⟩ }
    members := ⟨member .voting, member .voting, member .voting, member .linked⟩
    groupState := .active
    window := { Window.reset with nextRound := some 5 }
    output := { OutputPort.reset with state := .safe }
    ports := PerChannel.fill upPort }

theorem sound_running : Sound running := sound_of_check (by decide +kernel)

/-- The same group with members in other states; the group state follows. -/
def withMembers (a b c d : Member) (g : GroupState) : State :=
  { running with members := ⟨a, b, c, d⟩, groupState := g }

/-- An OPEN round with nothing arrived. -/
def openRound (c : Cycle) : Round := ⟨c, 7800, ChannelSet.empty, none⟩

/-- A round sealed by its deadline with the three voters. -/
def sealedRound (c : Cycle) : Round := ⟨c, 7800, ChannelSet.empty, some ⟨.deadline, ⟨true, true, true, false⟩⟩⟩

/-- The group with these rounds present before N = 5. -/
def withRounds (rounds : List Round) : State := { running with window := { running.window with rounds := rounds } }

/-- The group when the Cycle Timer has taken mark 5 and no block has. -/
def atMark (s : State) : State := after (.mark (.opens [])) s

/-- A PENDING change entry of A with a ticket. -/
def entry (ticket : Byte) (p : Payload) (expiry : Option Cycle) : ChangeEntry where
  ticket := ticket
  proposer := .a
  baseEpoch := 1
  payload := p
  payloadDigest := 77
  concurrence := ChannelSet.only .a
  expiry := expiry
  state := .pending

/-- The group with these change entries. -/
def withEntries (l : List ChangeEntry) : State := { running with changes := ⟨l, 2⟩ }

/-- A PENDING founding entry, of the part while EMPTY with its four links UP. -/
def founding : State :=
  { State.reset with
    members := PerChannel.fill (member .linked)
    ports := PerChannel.fill upPort
    changes := ⟨[{ entry 1 (.found record schema) none with baseEpoch := 0, concurrence := ⟨true, true, false, false⟩ }], 1⟩
    timer := { Timer.reset with foundingExpiries := [⟨1, 2000000⟩] } }

/-- The group with a committed change that waits for cycle 5 or 6. -/
def withAwaiting (kind : AwaitedKind) (r : GroupRecord) (a : Cycle) : State :=
  { running with
    store := { running.store with
      awaiting := some ⟨⟨r, schema, 2, configurationDigest r schema, a⟩, kind⟩
      items := some ⟨9, 4, false⟩ :: List.replicate 31 none } }

/-! ## One small step for each family -/

theorem test_announce_as_observer :
    ((after (.announce .d ([3, 2] ++ be32 1 ++ be32 configuration.digest ++ be32 7 ++ be32 8)) running).members.get
      .d).state = .observer := by decide +kernel

theorem test_announce_on_another_letter_is_refused :
    ((after (.announce .d ([0, 2] ++ be32 1 ++ be32 0 ++ be32 7 ++ be32 8)) running).ports.get .d).notices =
      [.refused 0x11 .wrongPort] := by decide +kernel

theorem test_leave_of_a_linked_channel_is_refused :
    ((after (.leave .d []) running).ports.get .d).notices = [.refused 0x12 .wrongState] := by decide +kernel

/-- A PROPOSAL for cycle 5 with its one item. -/
def proposalBytes (c : Cycle) (epoch : Word32) (v : Nat) : List Byte :=
  be32 c ++ be32 epoch ++ [1] ++ be32 0 ++ be16 v

theorem test_proposal_is_queued :
    (after (.proposal .b (proposalBytes 5 1 300)) running).window.queues.get .b = [⟨5, 1, 1, [some 300]⟩] := by
  decide +kernel

theorem test_proposal_two_cycles_ahead_is_early :
    ((after (.proposal .b (proposalBytes 6 1 300)) running).standing.get .b).counters.early = 1 := by decide +kernel

theorem test_proposal_of_another_epoch_costs_eight :
    ((after (.proposal .b (proposalBytes 5 2 300)) running).standing.get .b).score = 8 := by decide +kernel

theorem test_change_in_the_group_is_pending :
    ((after (.change .b (5 :: be32 1 ++ be32 0xFFFFFFFF)) running).changes.entries.map (·.ticket)) = [1] := by
  decide +kernel

theorem test_concur_dissolves :
    (after (.concur .b (1 :: be32 77)) (withEntries [entry 1 .dissolve (some 69)])).store.installed = none := by
  decide +kernel

theorem test_concur_founds :
    (after (.concur .c (1 :: be32 77)) founding).timer.running.map (·.nextMark) = some 1000 := by decide +kernel

theorem test_retract_voids :
    (after (.retract .a [1]) (withEntries [entry 1 .dissolve (some 69)])).part.changesVoided = 1 := by decide +kernel

theorem test_read_with_clear_of_another_channel_is_refused :
    ((after (.read .a [3, 1, 1]) running).ports.get .a).notices = [.refused 0x17 .badField] := by decide +kernel

theorem test_unknown_kind_is_answered :
    ((after (.unknownKind .d 0x21) running).ports.get .d).notices = [.refused 0x21 .unknownKind] := by decide +kernel

theorem test_mark_opens_round_five :
    (after (.mark (.takes [.roundWindow])) (atMark running)).window.rounds.map (·.deadline) = [8300] := by
  decide +kernel

/-- A mark waits for the blocks that have still to take the one before it (R60). -/
theorem test_mark_waits_for_the_owed_one :
    let s := after (.mark (.opens [])) (atMark running)
    s.window.rounds.map (·.cycle) = [5] ∧ s.window.nextRound = some 6 ∧ s.timer.running.map (·.nextCycle) = some 7 := by
  decide +kernel

theorem test_deadline_seals :
    (after (.deadlineExpiry 4) (withRounds [openRound 4])).window.rounds = [sealedRound 4] := by decide +kernel

theorem test_close_of_an_empty_round_costs_eight :
    ((after .close (withRounds [sealedRound 4])).standing.get .c).score = 8 := by decide +kernel

theorem test_close_of_an_empty_round_is_void :
    (after .close (withRounds [sealedRound 4])).history.map (·.outcome) = [.void] := by decide +kernel

theorem test_warm_reset_detaches :
    ((after .warmReset running).members.get .a).state = .detached := by decide +kernel

theorem test_release_resumes_at_the_retained_cycle :
    (after .resetRelease (after .warmReset running)).timer.running = some ⟨5, 8000, 1000, 800⟩ := by decide +kernel

theorem test_quiet_voter_is_detached_and_counted :
    ((after (.lineQuiet .a) running).standing.get .a).counters.exclusions = 1 := by decide +kernel

theorem test_fourth_bad_frame_takes_the_line_to_hunt :
    ((after (.badFrame .d) (running.modPort .d fun p => { p with badRun := 3 })).ports.get .d).line = .hunt := by
  decide +kernel

theorem test_last_notice_leaves_lost :
    ((after (.transmitChoice .a)
      (running.modPort .a fun p => { p with notices := [.promoted], lostNotices := 3 })).ports.get .a).notices =
      [.lost 3] := by decide +kernel

/-- READ frames received byte by byte bring a line UP at the second and are answered at the third (R151, R161). -/
theorem test_third_read_on_the_line_is_answered :
    (((frameOnLine 0x17 [5, 0, 0] ++ (frameOnLine 0x17 [5, 0, 0]).drop 1 ++ (frameOnLine 0x17 [5, 0, 0]).drop 1).foldl
      (fun s b => after (.lineActivity .d ⟨b, false⟩) s) State.reset).ports.get .d).replySlot.isSome = true := by
  decide +kernel

/-! ## Witnesses: for each statement with hypotheses, states and operands that meet them together -/

theorem offersNext_of_find {t : Timer} {b : MarkTaker} {o : MarkOffer}
    (h : t.offers.find? (·.taker == b) = some o) : t.offersNext b o (t.offers.eraseP (·.taker == b)) := by
  obtain ⟨hb, before, after, hs, hn⟩ := List.find?_eq_some_iff_append.mp h
  refine ⟨before, after, hs, ?_, by simpa using hb, fun x hx => by simpa using hn x hx⟩
  rw [hs, List.eraseP_append_right _ (by simpa using hn), List.eraseP_cons_of_pos (p := fun x : MarkOffer => x.taker == b) hb]

/-- The oldest mark on its way to a block, as its statement asks for it: at `s`, mark 5 of tick 7500 with the deadline 8300. -/
def takesFive (s : State) (b : MarkTaker) : Prop :=
  s.timer.offersNext b ⟨b, 5, 8300, 7500⟩ (s.timer.offers.eraseP (·.taker == b))

theorem takes_five {s : State} {b : MarkTaker} (h : s.timer.offers.find? (·.taker == b) = some ⟨b, 5, 8300, 7500⟩) :
    takesFive s b := offersNext_of_find h

theorem witness_StepRunsFrontCommand : ({ running with pending := [.close] } : State).pending = [.close] := rfl

theorem witness_EmptyQueueTakesOwnEventOrTick :
    (running.pending = [] ∧ running.readyEvents = [])
      ∧ (withRounds [sealedRound 4]).pending = [] ∧ (withRounds [sealedRound 4]).readyEvents ≠ [] := by
  decide +kernel

theorem witness_CommandsLeaveTheQueue : running.outbox = [] := rfl

theorem witness_WarmResetKeepsOnlyTheConfiguration :
    (running.resetPin = .high ∧ running.store.installed ≠ none)
      ∧ State.reset.resetPin = .high ∧ State.reset.store.installed = none := by decide +kernel

theorem witness_ResetReleaseResumesNumbering :
    (let s := after .warmReset running;
      s.resetPin = .low ∧ s.store.sound = true ∧ s.store.installed = some configuration
        ∧ s.store.retainedNextCycle = some 5)
      ∧ (let s := after .warmReset State.reset;
        s.resetPin = .low ∧ s.store.sound = true ∧ s.store.installed = none) := by decide +kernel

theorem witness_ResetPinHoldsThePart : running.resetPin = .high ∧ (after .warmReset running).resetPin = .low := by
  decide +kernel

/-- A STOPPED timer, a running one with every mark taken, and a block with no mark on its way. -/
theorem witness_MarkOpensCycle :
    (State.reset.timer.running = none ∧ State.reset.timer.offers = [])
      ∧ (running.timer.running = some ⟨5, 7500, 1000, 800⟩ ∧ running.timer.offers = []
        ∧ running.store.inForce 5 = some configuration)
      ∧ (let s := after (.mark (.takes [.store])) (atMark running);
        s.timer.offers.length = 7 ∧ ∀ o ∈ s.timer.offers, o.taker ≠ .store) := by
  decide +kernel

/-- With no round present, and with three, the most that a mark opens a round beside. -/
theorem witness_MarkOpensRound :
    ∀ s ∈ [atMark running, atMark (withRounds [openRound 2, sealedRound 3, openRound 4])],
      takesFive s .roundWindow ∧ s.window.nextRound ≠ none ∧ s.window.rounds.length ≤ 3
        ∧ (∀ r ∈ s.window.rounds, r.cycle ≠ 5) ∧ s.outbox = [] := by
  intro s hs
  simp only [List.mem_cons, List.not_mem_nil, or_false] at hs
  rcases hs with rfl | rfl <;> exact ⟨takes_five (by decide +kernel), by decide +kernel⟩

theorem witness_CapacityCloseAtFourRounds :
    ∀ r ∈ [openRound 1, sealedRound 1],
      let s := atMark (withRounds [r, openRound 2, sealedRound 3, openRound 4])
      Sound s ∧ takesFive s .roundWindow ∧ s.window.rounds = [r, openRound 2, sealedRound 3, openRound 4] := by
  intro r hr
  simp only [List.mem_cons, List.not_mem_nil, or_false] at hr
  rcases hr with rfl | rfl <;>
    exact ⟨sound_of_check (by decide +kernel), takes_five (by decide +kernel), by decide +kernel⟩

/-- An UP port with an empty slot, one with a MARK waiting, and a DOWN port. -/
theorem witness_MarkFillsMarkSlot :
    ∀ s ∈ [atMark running, atMark (running.modPort .a fun p => { p with markSlot := some ⟨4, 1, .active, .safe⟩ }),
        atMark (running.modPort .a fun _ => Port.reset)],
      takesFive s (.port .a) ∧ s.outbox = [] := by
  intro s hs
  simp only [List.mem_cons, List.not_mem_nil, or_false] at hs
  rcases hs with rfl | rfl | rfl <;> exact ⟨takes_five (by decide +kernel), by decide +kernel⟩

/-- A candidate in an ACTIVE group, and candidates in a STALLED one. -/
theorem witness_CandidateStepMovesAllTogether :
    ∀ s ∈ [atMark (withMembers (member .voting) (member .voting) (member .candidate) (member .linked) .active),
        atMark (withMembers (member .candidate) (member .candidate) (member .linked) (member .linked) .stalled)],
      Sound s ∧ takesFive s .membership := by
  intro s hs
  simp only [List.mem_cons, List.not_mem_nil, or_false] at hs
  rcases hs with rfl | rfl <;> exact ⟨sound_of_check (by decide +kernel), takes_five (by decide +kernel)⟩

/-- One entry expires at mark 5, two do, or none does. -/
theorem witness_MarkVoidsExpiredEntries :
    ∀ l ∈ [[entry 1 .dissolve (some 5), entry 2 .dissolve (some 6)],
        [entry 1 .dissolve (some 5), entry 2 .dissolve (some 5)], []],
      Sound (atMark (withEntries l)) ∧ takesFive (atMark (withEntries l)) .changeTable := by
  intro l hl
  simp only [List.mem_cons, List.not_mem_nil, or_false] at hl
  rcases hl with rfl | rfl | rfl <;> exact ⟨sound_of_check (by decide +kernel), takes_five (by decide +kernel)⟩

/-- What waits in `withAwaiting`. -/
def awaited (kind : AwaitedKind) (r : GroupRecord) (a : Cycle) : Awaiting :=
  ⟨⟨r, schema, 2, configurationDigest r schema, a⟩, kind⟩

/-- Mark 5 activates a change of cycle 5, and does not yet activate one of cycle 6. -/
theorem witness_ActivationInstallsTheAwaitingChange :
    (let s := atMark (withAwaiting .group record 5);
      Sound s ∧ takesFive s .store ∧ s.store.awaiting = some (awaited .group record 5)
        ∧ sameOrNewer 5 (awaited .group record 5).config.firstCycle = true)
      ∧ (let s := atMark (withAwaiting .group record 6);
        Sound s ∧ takesFive s .store ∧ s.store.awaiting = some (awaited .group record 6)
          ∧ sameOrNewer 5 (awaited .group record 6).config.firstCycle = false) :=
  ⟨⟨sound_of_check (by decide +kernel), takes_five (by decide +kernel), by decide +kernel, by decide +kernel⟩,
    ⟨sound_of_check (by decide +kernel), takes_five (by decide +kernel), by decide +kernel, by decide +kernel⟩⟩

/-- Two retained configurations, of cycles 2 and 4, the installed one of cycle 6, and a change that waits for cycle 8. -/
def keeping : Store :=
  { running.store with
    retained := [{ configuration with firstCycle := 2 }, { configuration with firstCycle := 4 }]
    installed := some { configuration with firstCycle := 6 }
    awaiting := some (awaited .group record 8) }

/-- The first cycle of the configuration in force for cycles 1 to 9, by the words of R8. -/
theorem test_configuration_in_force :
    (List.range' 1 9).map (fun c => ((keeping.inForce (BitVec.ofNat 32 c)).map (·.firstCycle)))
      = ([2, 2, 2, 4, 4, 6, 6, 8, 8] : List Cycle).map some := by decide +kernel

/-- An EMPTY store; a cycle of the awaiting change, at its activation cycle; one of the installed configuration, at its
first cycle; and cycles of both retained ones, at the ends of their spans and before the oldest. -/
theorem witness_ActivationInstallsTheAwaitingChange_inForce :
    (State.reset.store.installed = none ∧ State.reset.store.awaiting = none)
      ∧ keeping.installed = some { configuration with firstCycle := 6 }
      ∧ keeping.awaiting = some (awaited .group record 8)
      ∧ sameOrNewer 8 (awaited .group record 8).config.firstCycle = true
      ∧ sameOrNewer 7 (awaited .group record 8).config.firstCycle = false ∧ older 6 6 = false
      ∧ keeping.retained ++ keeping.installed.toList
          = [{ configuration with firstCycle := 2 }] ++ { configuration with firstCycle := 4 } ::
              { configuration with firstCycle := 6 } :: []
      ∧ (older 4 6 = true ∧ older 4 4 = false ∧ older 5 6 = true ∧ older 5 4 = false)
      ∧ (older 1 6 = true ∧ older 1 4 = true ∧ older 3 6 = true ∧ older 3 4 = true) :=
  ⟨⟨rfl, rfl⟩, rfl, rfl, by decide, by decide, by decide, rfl, by decide, by decide⟩

theorem witness_SchemaAndPardonActivationEffects :
    ∀ k ∈ [AwaitedKind.schema, .pardon .d],
      let s := atMark (withAwaiting k record 5)
      Sound s ∧ takesFive s .store ∧ s.store.awaiting = some (awaited k record 5) ∧ k ≠ .group
        ∧ sameOrNewer 5 (awaited k record 5).config.firstCycle = true := by
  intro k hk
  simp only [List.mem_cons, List.not_mem_nil, or_false] at hk
  rcases hk with rfl | rfl <;>
    exact ⟨sound_of_check (by decide +kernel), takes_five (by decide +kernel), by decide +kernel, by decide,
      by decide +kernel⟩

/-- A GROUP change that leaves out C and sets exclude_level to 2. -/
def stricter : GroupRecord := { record with members := ⟨true, true, false, false⟩, warnLevel := 1, excludeLevel := 2 }

/-- At the activation of `stricter` C is demoted, A, whose score is 2, is claimed, and B, whose score is 1, stays. -/
theorem witness_GroupActivationDemotesAndClaims :
    let s := atMark { withAwaiting .group stricter 5 with
      standing := ⟨⟨2, Counters.zero⟩, ⟨1, Counters.zero⟩, Standing.reset, Standing.reset⟩ }
    (Sound s ∧ takesFive s .store ∧ s.store.awaiting = some (awaited .group stricter 5)
      ∧ (awaited .group stricter 5).kind = .group ∧ sameOrNewer 5 (awaited .group stricter 5).config.firstCycle = true)
      ∧ (s.channelState .c = .voting ∧ stricter.members.get .c = false)
      ∧ (s.channelState .a = .voting ∧ stricter.members.get .a = true
        ∧ stricter.excludeLevel ≤ (s.standing.get .a).score)
      ∧ (stricter.members.get .b = true ∧ (s.standing.get .b).score < stricter.excludeLevel) :=
  ⟨⟨sound_of_check (by decide +kernel), takes_five (by decide +kernel), by decide +kernel, rfl, by decide +kernel⟩,
    by decide +kernel⟩

/-- The middle one of three rounds, OPEN or SEALED, reaches its deadline; round 9 is not present. -/
theorem witness_DeadlineSealsOpenRound :
    (∀ r ∈ [openRound 3, sealedRound 3],
      let s := withRounds [openRound 2, r, openRound 4]
      s.window.rounds = [openRound 2] ++ r :: [openRound 4] ∧ r.cycle = 3
        ∧ ∀ x ∈ [openRound 2] ++ [openRound 4], x.cycle ≠ 3)
      ∧ ∀ r ∈ (withRounds [openRound 2, openRound 3]).window.rounds, r.cycle ≠ 9 := by decide +kernel

theorem witness_FoundingExpiryVoidsTheEntry :
    Sound founding ∧ (∃ x ∈ founding.timer.foundingExpiries, x.ticket = 1)
      ∧ ∀ x ∈ founding.timer.foundingExpiries, x.ticket ≠ 2 :=
  ⟨sound_of_check (by decide +kernel), by decide +kernel⟩

theorem witness_FirstByteTakesDownLineToHunt :
    State.reset.resetPin = .high ∧ (State.reset.ports.get .a).line = .down := by decide

/-- A voter's line, a LINKED channel's line, the line of the LINKED proposer of a founding, and a line that is not UP go
quiet. -/
theorem witness_QuietLineGoesDown :
    (running.resetPin = .high ∧ Sound running ∧ (running.ports.get .a).line = .up ∧ (running.members.get .a).state = .voting
        ∧ (running.ports.get .d).line = .up ∧ (running.members.get .d).state = .linked)
      ∧ (founding.resetPin = .high ∧ Sound founding ∧ (founding.ports.get .a).line = .up
        ∧ founding.reachesChanges .a = true)
      ∧ State.reset.resetPin = .high ∧ Sound State.reset ∧ (State.reset.ports.get .a).line ≠ .up :=
  ⟨⟨rfl, sound_running, by decide, by decide, by decide, by decide⟩,
    ⟨rfl, sound_of_check (by decide +kernel), by decide +kernel, by decide +kernel⟩, rfl,
    sound_of_check (by decide +kernel), by decide⟩

/-- A change waits whose holdoff differs from the installed one, no change waits, and the group is EMPTY. -/
theorem witness_QuietLineGoesDown_current :
    (let s := withAwaiting .group { record with holdoffCycles := 9 } 6;
      s.store.awaiting = some (awaited .group { record with holdoffCycles := 9 } 6) ∧ s.currentHoldoff = 9)
      ∧ running.store.awaiting = none ∧ running.store.installed = some configuration
      ∧ State.reset.store.awaiting = none ∧ State.reset.store.installed = none := ⟨⟨rfl, rfl⟩, rfl, rfl, rfl, rfl⟩

/-- The part after power-on with a HUNT line at A. -/
def hunting (run : Nat) : State :=
  State.reset.modPort .a fun p => { p with line := .hunt, receiver := .inFrame [] 0, huntRun := run }

theorem witness_HuntRunBringsTheLineUp :
    (State.reset.ports.get .a).line = .down
      ∧ (∀ run ∈ [0, 1], (hunting run).resetPin = .high ∧ ((hunting run).ports.get .a).line = .hunt
        ∧ ((hunting run).ports.get .a).huntRun = run ∧ ((hunting run).members.get .a).state = .detached
        ∧ (hunting run).outbox = []) := by
  decide +kernel

/-- The third bad frame of a voter with this score. -/
def badlyReceived (score : Nat) : State :=
  { running.modPort .a fun p => { p with badRun := 2 } with
    standing := ⟨⟨score, Counters.zero⟩, Standing.reset, Standing.reset, ⟨70, Counters.zero⟩⟩ }

/-- The last bad frame that takes no line to HUNT: of a voter below warn_level, at its crossing, and at the crossing of
exclude_level; of a channel that is not scored; and of one in an EMPTY group. -/
theorem witness_BadFrameIsCountedAndWeighed :
    (∀ score ∈ [0, 30, 62], let s := badlyReceived score
      s.resetPin = .high ∧ Sound s ∧ (s.ports.get .a).line = .up ∧ (s.ports.get .a).badRun < 3
        ∧ s.channelState .a = .voting ∧ s.store.installed = some configuration)
      ∧ (0 + 2 < configuration.record.warnLevel ∧ configuration.record.warnLevel = 30 + 2
        ∧ configuration.record.excludeLevel = 62 + 2)
      ∧ ((running.ports.get .d).line = .up ∧ (running.ports.get .d).badRun < 3 ∧ running.channelState .d = .linked)
      ∧ (founding.resetPin = .high ∧ Sound founding ∧ (founding.ports.get .a).line = .up
        ∧ (founding.ports.get .a).badRun < 3 ∧ founding.store.installed = none) := by
  refine ⟨?_, by decide +kernel, by decide +kernel, rfl, sound_of_check (by decide +kernel), by decide +kernel⟩
  intro score h
  simp only [List.mem_cons, List.not_mem_nil, or_false] at h
  rcases h with rfl | rfl | rfl <;> exact ⟨rfl, sound_of_check (by decide +kernel), by decide +kernel⟩

/-- The fourth bad frame of a voter, one of them with its score one frame below exclude_level and a MARK waiting, and of the
LINKED proposer of a founding. -/
theorem witness_FourthBadFrameTakesLineToHunt :
    (∀ score ∈ [0, 63],
      let s := { running.modPort .a fun p => { p with badRun := 3, markSlot := some ⟨4, 1, .active, .safe⟩ } with
        standing := ⟨⟨score, Counters.zero⟩, Standing.reset, Standing.reset, Standing.reset⟩ }
      s.resetPin = .high ∧ Sound s ∧ (s.ports.get .a).line = .up ∧ 3 ≤ (s.ports.get .a).badRun)
      ∧ (let s := founding.modPort .a fun p => { p with badRun := 3 }
        s.resetPin = .high ∧ Sound s ∧ (s.ports.get .a).line = .up ∧ 3 ≤ (s.ports.get .a).badRun) := by
  refine ⟨?_, rfl, sound_of_check (by decide +kernel), by decide +kernel, by decide +kernel⟩
  intro score h
  simp only [List.mem_cons, List.not_mem_nil, or_false] at h
  rcases h with rfl | rfl <;> exact ⟨rfl, sound_of_check (by decide +kernel), by decide +kernel, by decide +kernel⟩

/-- An UP line and a HUNT line, and on either a frame of which 299 bytes have come. -/
theorem witness_AbortedFrameIsJudgedBad :
    ∀ s ∈ [running, hunting 0],
      (s.resetPin = .high ∧ (s.ports.get .a).line ≠ .down)
        ∧ (let l := s.modPort .a fun p => { p with receiver := .inFrame (List.replicate 299 ⟨7, false⟩) 0 }
          l.resetPin = .high ∧ (l.ports.get .a).line ≠ .down
            ∧ ((l.ports.get .a).receiver = .inFrame (List.replicate 299 ⟨7, false⟩) 0)
            ∧ 299 ≤ (List.replicate 299 (⟨7, false⟩ : RxByte)).length) := by decide +kernel

theorem witness_UnknownKindIsCountedAndAnswered :
    running.resetPin = .high ∧ (running.ports.get .a).line = .up ∧ running.outbox = []
      ∧ 0x21#8 ∉ [0x11#8, 0x12#8, 0x13#8, 0x14#8, 0x15#8, 0x16#8, 0x17#8] := by decide

/-- A port with this many notices waiting. -/
def noticesWaiting (n : Nat) : Port := { Port.reset with notices := List.replicate n .promoted }

/-- Seven notices wait, and eight do, with the lost-notice count at its end and below it. -/
theorem witness_UnknownKindIsCountedAndAnswered_takeNotice :
    (noticesWaiting 7).notices.length ≤ 7 ∧ ((noticesWaiting 7).takeNotice (.advisory 1)).notices.length = 8
      ∧ 8 ≤ (noticesWaiting 8).notices.length ∧ ((noticesWaiting 8).takeNotice (.advisory 1)).lostNotices = 1
      ∧ ({ noticesWaiting 8 with lostNotices := 255 }.takeNotice (.advisory 1)).lostNotices = 255 := by decide

/-- A body that is judged good, and bad ones: a wrong check, an escape with another byte after it, a length of its own, and
a frame ended one tick late. -/
theorem witness_EscapingIsUndoneAndCutFramesAreBad :
    let received := fun l : List Byte => l.map fun b => (⟨b, false⟩ : RxByte)
    (∀ l ∈ [bodyOnLine 0x12 [0xC5], [0x12, 0, 0, 0], [0x12, 0xCA, 0xC4, 0], bodyOnLine 0x12 [] ++ [0]],
        ∀ x ∈ received l, x.data ≠ 0xC5#8 ∧ x.framingError = false)
      ∧ judge (received (bodyOnLine 0x12 [0xC5])) 0 150 = .good 0x12 [0xC5]
      ∧ judge (received (bodyOnLine 0x12 [0xC5])) 0 151 = .bad
      ∧ ∀ l ∈ [[0x12, 0, 0, 0], [0x12, 0xCA, 0xC4, 0], bodyOnLine 0x12 [] ++ [0]], judge (received l) 0 0 = .bad := by
  decide +kernel

/-- A payload of bytes to escape, and the whole 150 ticks. -/
theorem witness_SentFrameIsJudgedGood :
    deliverable 0x13 (List.replicate 40 0xC5) = true ∧ ((150 : Tick) - 0).toNat ≤ 150 := by decide +kernel

/-- The line of channel A in this state of its receiver. -/
def receiving (line : LineState) (r : Receiver) : State :=
  running.modPort .a fun p => { p with line := line, receiver := r }

/-- An UP line and a HUNT line: SEEKING, after a delimiter, in a body short of the limit, and at the end of a body that is
judged bad and of one that is judged good. -/
theorem witness_BytesMakeTheFrame :
    (∀ line ∈ [LineState.up, .hunt], ∀ r ∈ [Receiver.seeking, .inFrame [] 7000, .inFrame [⟨0x17, false⟩] 7000],
      (receiving line r).resetPin = .high ∧ ((receiving line r).ports.get .a).line ≠ .down
        ∧ (receiving line r).outbox = [] ∧ ((receiving line r).ports.get .a).receiver = r)
      ∧ judge [⟨0x17, false⟩] 7000 running.timer.tickCount = .bad
      ∧ judge ((bodyOnLine 0x13 [0xC5, 0xCA, 7]).map fun b => ⟨b, false⟩) 7000 running.timer.tickCount =
          .good 0x13 [0xC5, 0xCA, 7]
      ∧ deliverable 0x13 [0xC5, 0xCA, 7] = true ∧ (running.timer.tickCount - 7000).toNat ≤ 150 := by decide +kernel

theorem witness_RecordDecodesFromItsEncoding : record.valid = true ∧ stricter.valid = true := by decide +kernel

/-- Undefined codes, bits and lengths decode to nothing (R4, R174). -/
theorem test_ill_formed_configurations_do_not_decode :
    decodeSchema [1, 2, 0, 0, 0, 0, 0, 0] = none ∧ decodeSchema [0] = none ∧ decodeSchema [1, 0, 0, 0, 0, 0, 0] = none
      ∧ decodeRecord (0x17 :: (encodeRecord record).tail) = none ∧ decodeRecord (encodeRecord record ++ [0]) = none
      ∧ decodePayload .pardon record.members [3] = none := by decide +kernel

theorem witness_SchemaDecodesFromItsEncoding :
    ∀ n ∈ [1, 32], let items := List.replicate n (⟨.band, .signed, 65535, .hold, 0⟩ : SchemaItem)
      1 ≤ items.length ∧ items.length ≤ 32 ∧ ∀ e ∈ items, e.tolerance ≤ 65535 := by decide

/-- D announces itself as an observer, and on another port's letter. -/
theorem witness_AnnounceFollowsItsTable :
    (running.resetPin = .high ∧ Sound running ∧ (running.ports.get .d).line = .up)
      ∧ firstMet (running.announceTable .d ([3, 2] ++ be32 1 ++ be32 configuration.digest ++ be32 7 ++ be32 8)) = none
      ∧ firstMet (running.announceTable .d ([0, 2] ++ be32 1 ++ be32 0 ++ be32 7 ++ be32 8)) = some .wrongPort :=
  ⟨⟨rfl, sound_running, by decide⟩, by decide +kernel, by decide +kernel⟩

/-- A, which votes and has proposed an entry, leaves; D, which is LINKED, may not. -/
theorem witness_LeaveFollowsItsTable :
    let s := withEntries [entry 1 .dissolve (some 69)]
    (s.resetPin = .high ∧ Sound s ∧ (s.ports.get .a).line = .up ∧ (s.ports.get .d).line = .up)
      ∧ firstMet (s.leaveTable .a) = none ∧ s.channelState .a = .voting ∧ firstMet (s.leaveTable .d) = some .wrongState :=
  ⟨⟨rfl, sound_of_check (by decide +kernel), by decide +kernel⟩, by decide +kernel⟩

/-- Around the next round number 5 with rounds 3 and 4 present: 2 lies behind the span, 3 and 5 inside it, 6 newer. -/
theorem witness_SpanHasThreeClasses :
    let s := withRounds [openRound 3, openRound 4]
    (Sound s ∧ s.window.nextRound = some 5)
      ∧ s.inSpan 2 = false ∧ s.inSpan 3 = true ∧ s.inSpan 5 = true ∧ s.inSpan 6 = false ∧ older 5#32 6#32 = true :=
  ⟨⟨sound_of_check (by decide +kernel), by decide +kernel⟩, by decide +kernel⟩

/-- A duplicate of B, and a late proposal of a CANDIDATE, which is not scored. -/
theorem witness_RejectedProposalIsOnlyCounted :
    (let s := after (.proposal .b (proposalBytes 5 1 300)) running;
      s.resetPin = .high ∧ Sound s ∧ (s.ports.get .b).line = .up
        ∧ firstMet (s.proposalTable .b (proposalBytes 5 1 300)) = some .duplicate)
      ∧ (let s := withMembers (member .voting) (member .voting) (member .candidate) (member .linked) .active;
        s.resetPin = .high ∧ Sound s ∧ (s.ports.get .c).line = .up
          ∧ firstMet (s.proposalTable .c (proposalBytes 4 1 300)) = some .late
          ∧ s.channelState .c ≠ .probation ∧ s.channelState .c ≠ .voting) :=
  ⟨⟨by decide +kernel, sound_of_check (by decide +kernel), by decide +kernel, by decide +kernel⟩,
    ⟨by decide +kernel, sound_of_check (by decide +kernel), by decide +kernel, by decide +kernel⟩⟩

/-- The group with this score at B. -/
def withScore (score : Nat) : State :=
  { running with standing := ⟨Standing.reset, ⟨score, Counters.zero⟩, Standing.reset, Standing.reset⟩ }

/-- A late proposal that leaves the score one below exclude_level, and one that takes it to the level. -/
theorem witness_LateOrMismatchedProposalIsWeighed :
    ∀ score ∈ [59, 60],
      let s := withScore score
      s.resetPin = .high ∧ Sound s ∧ s.channelState .b = .voting ∧ s.store.installed = some configuration
        ∧ firstMet (s.proposalTable .b (proposalBytes 4 1 300)) = some .late
        ∧ (min (score + 4) 255 < configuration.record.excludeLevel ↔ score = 59) := by
  intro score h
  simp only [List.mem_cons, List.not_mem_nil, or_false] at h
  rcases h with rfl | rfl <;> exact ⟨rfl, sound_of_check (by decide +kernel), by decide +kernel⟩

/-- A mismatched proposal weighs 8. -/
theorem witness_mismatched_proposal :
    firstMet (running.proposalTable .b (proposalBytes 5 2 300)) = some .epochWrong := by decide +kernel

/-- For a present round and for the next one. -/
theorem witness_TakenProposalIsQueued :
    let s := withRounds [openRound 4]
    s.resetPin = .high ∧ Sound s ∧ (s.ports.get .b).line = .up
      ∧ firstMet (s.proposalTable .b (proposalBytes 4 1 300)) = none
      ∧ firstMet (s.proposalTable .b (proposalBytes 5 1 300)) = none :=
  ⟨rfl, sound_of_check (by decide +kernel), by decide +kernel⟩

/-- The bytes of a CHANGE that founds the example's group. -/
def foundingChange : List Byte :=
  let content := encodeRecord record ++ encodeSchema schema
  1 :: be32 0 ++ be32 (crc32 content) ++ content

/-- The EMPTY part with four links UP. -/
def linkedEmpty : State :=
  { State.reset with members := PerChannel.fill (member .linked), ports := PerChannel.fill upPort }

/-- A founding in the EMPTY part, a DISSOLVE in the group, and a DISSOLVE of a channel that does not vote. -/
theorem witness_ChangeFollowsItsTable :
    (linkedEmpty.resetPin = .high ∧ Sound linkedEmpty ∧ (linkedEmpty.ports.get .a).line = .up
        ∧ firstMet (linkedEmpty.changeTable .a foundingChange) = none)
      ∧ (running.resetPin = .high ∧ Sound running ∧ (running.ports.get .b).line = .up
        ∧ (running.ports.get .d).line = .up)
      ∧ firstMet (running.changeTable .b (5 :: be32 1 ++ be32 0xFFFFFFFF)) = none
      ∧ firstMet (running.changeTable .d (5 :: be32 1 ++ be32 0xFFFFFFFF)) = some .notVoter :=
  ⟨⟨rfl, sound_of_check (by decide +kernel), by decide, by decide +kernel⟩, ⟨rfl, sound_running, by decide, by decide⟩,
    by decide +kernel, by decide +kernel⟩

/-- No entry, and an entry whose ticket is the first one tried, before and at the roll. -/
theorem witness_TicketsRollAndAreDistinct :
    (∀ c ∈ [(0 : Byte), 254, 255], (ChangeTable.mk [] c).entries.length ≤ 1)
      ∧ (ChangeTable.mk [entry 255 .dissolve none] 254).entries.length ≤ 1
      ∧ (ChangeTable.mk [entry 1 .dissolve none] 255).entries.length ≤ 1 := by decide

/-- A founding entry that B's concurrence does not complete yet, and a CONCUR of its proposer. -/
def youngFounding : State :=
  { founding with changes := ⟨founding.changes.entries.map fun e => { e with concurrence := ChannelSet.only .a }, 1⟩ }

theorem witness_ConcurFollowsItsTable :
    (youngFounding.resetPin = .high ∧ Sound youngFounding ∧ (youngFounding.ports.get .b).line = .up
        ∧ (youngFounding.ports.get .a).line = .up)
      ∧ firstMet (youngFounding.concurTable .b (1 :: be32 77)) = none
      ∧ (youngFounding.changes.entries.all fun e =>
        !({ e with concurrence := e.concurrence.set .b true } : ChangeEntry).quorumMet none) = true
      ∧ firstMet (youngFounding.concurTable .a (1 :: be32 77)) = some .alreadyConcurred :=
  ⟨⟨rfl, sound_of_check (by decide +kernel), by decide +kernel⟩, by decide +kernel⟩

/-- B's concurrence completes A's entry of each kind, while a second entry waits. -/
theorem witness_ConcurCommitsChange :
    ∀ p ∈ [Payload.group record, .schema schema, .pardon .d],
      let e := entry 1 p (some 69)
      let s := withEntries [e, entry 2 .dissolve (some 70)]
      s.resetPin = .high ∧ Sound s ∧ firstMet (s.concurTable .b (1 :: be32 77)) = none ∧ e ∈ s.changes.entries
        ∧ e.ticket = (1 :: be32 77 : List Byte).getD 0 0 ∧ s.store.installed = some configuration
        ∧ s.timer.running = some ⟨5, 7500, 1000, 800⟩ ∧ e.payload ≠ .dissolve
        ∧ ({ e with concurrence := e.concurrence.set .b true } : ChangeEntry).quorumMet s.store.installed = true := by
  intro p hp
  simp only [List.mem_cons, List.not_mem_nil, or_false] at hp
  rcases hp with rfl | rfl | rfl <;> exact ⟨rfl, sound_of_check (by decide +kernel), by decide +kernel⟩

/-- C's concurrence completes the founding by A, B and C. -/
theorem witness_ConcurFoundsTheGroup :
    let e := { entry 1 (.found record schema) none with baseEpoch := 0, concurrence := ⟨true, true, false, false⟩ }
    founding.resetPin = .high ∧ Sound founding ∧ firstMet (founding.concurTable .c (1 :: be32 77)) = none
      ∧ e ∈ founding.changes.entries ∧ e.ticket = (1 :: be32 77 : List Byte).getD 0 0
      ∧ e.payload = .found record schema
      ∧ ∀ x ∈ Channel.all, (e.concurrence.set .c true).get x = record.members.get x :=
  ⟨rfl, sound_of_check (by decide +kernel), by decide +kernel⟩

theorem witness_ConcurDissolvesTheGroup :
    let e := entry 1 .dissolve (some 69)
    let s := withEntries [e]
    s.resetPin = .high ∧ Sound s ∧ firstMet (s.concurTable .b (1 :: be32 77)) = none ∧ e ∈ s.changes.entries
      ∧ e.ticket = (1 :: be32 77 : List Byte).getD 0 0 ∧ e.payload = .dissolve
      ∧ ({ e with concurrence := e.concurrence.set .b true } : ChangeEntry).quorumMet s.store.installed = true :=
  ⟨rfl, sound_of_check (by decide +kernel), by decide +kernel⟩

/-- A retracts its entry; B may not. -/
theorem witness_RetractFollowsItsTable :
    let s := withEntries [entry 1 .dissolve (some 69)]
    (s.resetPin = .high ∧ Sound s ∧ (s.ports.get .a).line = .up ∧ (s.ports.get .b).line = .up)
      ∧ firstMet (s.retractTable .a [1]) = none ∧ firstMet (s.retractTable .b [1]) = some .notVoter :=
  ⟨⟨rfl, sound_of_check (by decide +kernel), by decide +kernel⟩, by decide +kernel⟩

/-- A reads its own entry with CLEAR, the last item number, and one past it. -/
theorem witness_ReadFollowsItsTable :
    (running.resetPin = .high ∧ running.outbox = [] ∧ (running.ports.get .a).line = .up)
      ∧ firstMet (running.readTable .a [3, 0, 1]) = none ∧ firstMet (running.readTable .a [6, 31, 0]) = none
      ∧ firstMet (running.readTable .a [6, 32, 0]) = some .badField := by decide +kernel

theorem witness_SnapshotShowsTheView :
    (3 : Byte) = channelCode .d ∧ running.store.installed = some configuration := by decide +kernel

/-- A port of the group whose transmitter does this, with these frames waiting. -/
def sending (x : Transmitter) (m : Option MarkFrame) (n : List Notice) (v : List Verdict) (r : Option Reply) : State :=
  running.modPort .a fun p =>
    { p with transmitter := x, markSlot := m, notices := n, verdicts := v, replySlot := r, lostNotices := 2 }

/-- A frame of each kind waiting as the first to go, at the end of a frame and at a free transmitter; a port that sends
no frame; and one that is silent. -/
theorem witness_TransmitterTakesByPriority :
    (let v : Verdict := ⟨4, 1, .void, .deadline, .safe, [], .notVoter, [], 0⟩
      let r : Reply := ⟨.group, 0, 1, .pending ⟨0, []⟩⟩
      let f : MarkFrame := ⟨4, 1, .active, .safe⟩
      ((sending (.frame (.notice .promoted)) (some f) [.promoted] [v] (some r)).ports.get .a).markSlot = some f
        ∧ (let p := (sending .fill none [.promoted] [v] (some r)).ports.get .a
          p.markSlot = none ∧ p.notices = .promoted :: [] ∧ 0 < p.lostNotices ∧ p.transmitter = .fill)
        ∧ (let p := (sending .abandoned none [] [v] (some r)).ports.get .a
          p.markSlot = none ∧ p.notices = [] ∧ p.verdicts = v :: [] ∧ p.transmitter = .abandoned)
        ∧ (let p := (sending .fill none [] [] (some r)).ports.get .a
          p.markSlot = none ∧ p.notices = [] ∧ p.verdicts = [] ∧ p.replySlot = some r)
        ∧ (let p := (sending .fill none [] [] none).ports.get .a
          p.markSlot = none ∧ p.notices = [] ∧ p.verdicts = [] ∧ p.replySlot = none))
      ∧ ((after .warmReset running).ports.get .a).transmitter = .silent := by decide +kernel

/-- The group with an OPEN or SEALED oldest round and the output link in this use. -/
def closing (r : Round) (link : OutputLink) (queue : List Decision) : State :=
  { withRounds [r] with output := { running.output with link := link, queue := queue } }

/-- A decision of cycle `c`. -/
def decision (c : Cycle) : Decision := ⟨c, 1, .safe, [⟨0, .safed, 255⟩]⟩

theorem witness_OutputLinkSendsOldestFirst :
    (closing (openRound 4) (.frame (decision 3)) []).output.link = .frame (decision 3)
      ∧ (closing (openRound 4) (.frame (decision 2)) [decision 3]).output.queue = decision 3 :: [] := by decide +kernel

/-- With the link free, busy with one frame waiting, and busy with two waiting; and an OPEN round. -/
theorem witness_CloseProducesOneDecision :
    (∀ s ∈ [closing (sealedRound 4) .fill [], closing (sealedRound 4) (.frame (decision 2)) [decision 3],
        closing (sealedRound 4) (.frame (decision 1)) [decision 2, decision 3]],
      Sound s ∧ s.window.rounds = sealedRound 4 :: []
        ∧ (sealedRound 4).sealedBy = some ⟨.deadline, ⟨true, true, true, false⟩⟩
        ∧ s.store.inForce 4 = some configuration ∧ s.store.installed = some configuration)
      ∧ ((openRound 4).sealedBy = none ∧ (closing (openRound 4) .fill []).window.rounds = openRound 4 :: []) := by
  refine ⟨?_, by decide +kernel⟩
  intro s hs
  simp only [List.mem_cons, List.not_mem_nil, or_false] at hs
  rcases hs with rfl | rfl | rfl <;> exact ⟨sound_of_check (by decide +kernel), by decide +kernel⟩

/-- A round that A alone sealed, with A and B VOTING and an OBSERVER at D to be told, A's VERDICT queue being full, and C
LINKED: B is VOTING and not counted. -/
def telling : State :=
  { (withMembers (member .voting) (member .voting) (member .linked) (member .observer) .active).modPort .a fun p =>
      { p with verdicts := List.replicate 4 ⟨3, 1, .void, .deadline, .safe, [], .notVoter, [], 0⟩ } with
    window := { running.window with rounds := [⟨4, 7800, ChannelSet.empty, some ⟨.deadline, ⟨true, false, false, false⟩⟩⟩] } }

theorem witness_CloseTellsEveryRecipient :
    Sound telling ∧ telling.window.rounds.map (·.cycle) = [4]
      ∧ (∀ r ∈ telling.window.rounds, r.sealedBy ≠ none)
      ∧ telling.store.inForce 4 = some configuration ∧ telling.store.installed = some configuration
      ∧ telling.channelState .a = .voting ∧ (telling.ports.get .a).verdicts.length = 4
      ∧ telling.channelState .b = .voting ∧ (telling.ports.get .b).verdicts.length < 4
      ∧ telling.channelState .d = .observer ∧ telling.channelState .c = .linked :=
  ⟨sound_of_check (by decide +kernel), by decide +kernel⟩

/-- A round with entries of A and B and none of C; the round is decided, so it is not VOID. -/
def voted (x y : Nat) : State :=
  after (.deadlineExpiry 4)
    (after (.proposal .b (proposalBytes 4 1 y)) (after (.proposal .a (proposalBytes 4 1 x)) (withRounds [openRound 4])))

/-- C is missing, D is not judged, and A and B are judged in a round that is decided, or VOID. -/
theorem witness_CloseWeighsEachClassOnce :
    (∀ s ∈ [voted 300 300, voted 300 301],
      Sound s ∧ s.window.rounds = [⟨4, 7800, ⟨true, true, false, false⟩, some ⟨.deadline, ⟨true, true, true, false⟩⟩⟩]
        ∧ (∃ e ∈ s.window.queues.get .a, e.cycle = 4) ∧ (s.window.queues.get .c = [])
        ∧ s.channelState .c = .voting ∧ s.channelState .d = .linked
        ∧ s.store.inForce 4 = some configuration ∧ s.store.installed = some configuration)
      ∧ (after .close (voted 300 300)).history.map (·.outcome) = [.complete]
      ∧ (after .close (voted 300 301)).history.map (·.outcome) = [.void] := by
  refine ⟨?_, by decide +kernel⟩
  intro s hs
  simp only [List.mem_cons, List.not_mem_nil, or_false] at hs
  rcases hs with rfl | rfl <;> exact ⟨sound_of_check (by decide +kernel), by decide +kernel⟩

/-- A close with no schema boundary, one older than it, and one of its own cycle. -/
theorem witness_CloseWritesAcceptedItems :
    ∀ b ∈ [none, some 5, some 4],
      let s := withRounds [sealedRound 4]
      let s := { s with store := { s.store with schemaBoundary := b } }
      Sound s ∧ s.window.rounds = sealedRound 4 :: [] ∧ (sealedRound 4).sealedBy ≠ none
        ∧ s.store.inForce 4 = some configuration ∧ s.store.installed = some configuration := by
  intro b hb
  simp only [List.mem_cons, List.not_mem_nil, or_false] at hb
  rcases hb with rfl | rfl | rfl <;> exact ⟨sound_of_check (by decide +kernel), by decide +kernel⟩

/-- The group that activated epoch 2 at cycle 4 while round 3 is present: its outgoing configuration is retained for
round 3, and the close of round 3 discards it. -/
def retaining : State :=
  let s := withRounds [sealedRound 3, openRound 4]
  { s with store := { s.store with
      installed := some { configuration with epoch := 2, firstCycle := 4 }
      retained := [configuration] } }

theorem witness_CloseWritesAcceptedItems_retained :
    (Sound retaining ∧ retaining.window.rounds = sealedRound 3 :: [openRound 4] ∧ (sealedRound 3).sealedBy ≠ none
      ∧ retaining.store.inForce 3 = some configuration ∧ retaining.store.installed.isSome = true)
      ∧ (after .close retaining).store.retained = [] := ⟨⟨sound_of_check (by decide +kernel), by decide +kernel⟩,
        by decide +kernel⟩

/-- A and B vote, C is in PROBATION one agreeing round before its promotion with this score; round 4 is sealed when C has
or has not proposed, and A and B agree or differ. -/
def onProbation (score : Nat) (proposed : Bool) (other : Nat) : State :=
  let c : Member := { member .probation with probationRun := 15, admissionCycle := some 2 }
  let s := { withMembers (member .voting) (member .voting) c (member .linked) .active with
    window := { running.window with rounds := [openRound 4] }
    standing := ⟨Standing.reset, Standing.reset, ⟨score, Counters.zero⟩, Standing.reset⟩ }
  let s := if proposed then after (.proposal .c (proposalBytes 4 1 300)) s else s
  after (.proposal .b (proposalBytes 4 1 other)) (after (.proposal .a (proposalBytes 4 1 300)) s)

/-- The round promotes C, leaves it (VOID), sets its run to 0, or excludes it. -/
theorem witness_CloseMovesProbation :
    (∀ s ∈ [onProbation 0 true 300, onProbation 0 true 301, onProbation 0 false 300, onProbation 60 false 300],
      Sound s ∧ s.window.rounds.map (·.cycle) = [4] ∧ (∀ r ∈ s.window.rounds, r.sealedBy ≠ none)
        ∧ s.store.inForce 4 = some configuration ∧ s.store.installed = some configuration
        ∧ s.channelState .c = .probation)
      ∧ [onProbation 0 true 300, onProbation 0 true 301, onProbation 0 false 300, onProbation 60 false 300].map
          (fun s => (((after .close s).members.get .c).state, ((after .close s).members.get .c).probationRun)) =
        [(.voting, 0), (.probation, 15), (.probation, 0), (.excluded, 0)] := by
  refine ⟨?_, by decide +kernel⟩
  intro s hs
  simp only [List.mem_cons, List.not_mem_nil, or_false] at hs
  rcases hs with rfl | rfl | rfl | rfl <;> exact ⟨sound_of_check (by decide +kernel), by decide +kernel⟩

/-- Round 4 is older than the admission cycle 5: C, which agrees, keeps its run. -/
theorem witness_CloseMovesProbation_older :
    let s := (onProbation 0 true 300).modMember .c fun m => { m with admissionCycle := some 5 }
    Sound s ∧ s.window.rounds.map (·.cycle) = [4] ∧ (∀ r ∈ s.window.rounds, r.sealedBy ≠ none)
      ∧ s.store.inForce 4 = some configuration ∧ s.store.installed = some configuration
      ∧ s.channelState .c = .probation ∧ sameOrNewer 4 5 = false
      ∧ ((after .close s).members.get .c).state = .probation ∧ ((after .close s).members.get .c).probationRun = 15 :=
  ⟨sound_of_check (by decide +kernel), by decide +kernel⟩

theorem witness_ExactVoteDecidesTheLeader :
    (⟨.exact, .unsigned, 0, .hold, 0⟩ : SchemaItem).matchMode = .exact
      ∧ (⟨.exact, .unsigned, 0, .hold, 0⟩ : SchemaItem).vote 2 [7, 9, 7] = some 7 := by decide

theorem witness_BandVoteDecidesTheLowerMedian :
    (⟨.band, .signed, 50, .hold, 0⟩ : SchemaItem).matchMode = .band
      ∧ (⟨.band, .signed, 50, .hold, 0⟩ : SchemaItem).vote 2 [0xFFEC, 0x001E] = some 0xFFEC := by decide

theorem witness_TooFewCountedChannelsMakeVoid :
    configuration.schema ≠ []
      ∧ (Channel.all.filter fun ch =>
          (((⟨.counted (some ⟨4, 1, 1, [some 7]⟩), .onlooker, .compared none, .outside⟩ : PerChannel Part)).get
            ch).isCounted).length < configuration.record.itemQuorum := by decide +kernel

/-- The eighth COMPLETE round leaves SAFE when recover_after is 8. -/
theorem witness_SafeIsLeftOnlyByCompleteRounds :
    1 ≤ 8 ∧ (let run := fun l : List RoundOutcome => l.foldl (fun o x => o.after x 3 8) (⟨.safe, 0, 0⟩ : OutputRuns)
      (run (List.replicate 7 .complete)).state = .safe
        ∧ (run (List.replicate 7 .complete ++ [.complete])).state ≠ .safe) := by decide

/-- The group with a voter's line about to go quiet. -/
theorem witness_StepKeepsSound :
    let s := { running with pending := [.lineQuiet .a] }
    Sound s ∧ ∃ t, step s = .next t := ⟨sound_of_check (by decide +kernel), _, rfl⟩

theorem witness_StepKeepsLinksAgree :
    let s := { running with pending := [.lineQuiet .a] }
    s.linksAgree = true ∧ ∃ t, step s = .next t := ⟨by decide +kernel, _, rfl⟩

end Sys2Proof.Tests
end

section
/-!
Lemmas about a mark: commands one after another, the marks on their way to the blocks, and the opening of a cycle (R22,
R24).
-/

namespace Sys2Proof.Proofs.CycleTimer

open Sys2Proof.Machine

variable (s : State)

/-! ## Commands one after another -/

/-- Commands that all lead to a next state pass it on to those that follow. -/
theorem runAll_append {l : List Instr} {t : State} (h : runAll l s = .next t) (m : List Instr) :
    runAll (l ++ m) s = runAll m t := by
  induction l generalizing s with
  | nil =>
    obtain rfl : s = t := Host.Outcome.next.inj h
    rfl
  | cons c l ih =>
    cases hc : exec c s with
    | next u =>
      simp only [runAll, hc, List.cons_append] at h ⊢
      exact ih u h
    | fault f => simp [runAll, hc] at h
    | refused r => simp [runAll, hc] at h

/-- Blocks that take a mark as events of their own take it one after another (R24). -/
theorem runAll_takes (blocks : List MarkTaker) :
    runAll (blocks.map fun b => .mark (.takes [b])) s = .next (blocks.foldl State.takeMark s) := by
  induction blocks generalizing s with
  | nil => rfl
  | cons b l ih => exact ih (s.takeMark b)

/-! ## The marks on their way (R24) -/

/-- The first offer to a block, among offers to others before it and any after it. -/
theorem takeOffer_append {b : MarkTaker} {o : MarkOffer} {before : List MarkOffer} (after : List MarkOffer)
    (ho : o.taker = b) (hb : ∀ x ∈ before, x.taker ≠ b) :
    takeOffer b (before ++ o :: after) = some (o, before ++ after) := by
  induction before with
  | nil => simp [takeOffer, ho]
  | cons x before ih =>
    have hx : x.taker ≠ b := hb x (List.mem_cons_self ..)
    have ih := ih fun y hy => hb y (List.mem_cons_of_mem _ hy)
    simp [takeOffer, hx, ih]

theorem takeOffer_of_offersNext {t : Timer} {b : MarkTaker} {o : MarkOffer} {rest : List MarkOffer}
    (h : t.offersNext b o rest) : takeOffer b t.offers = some (o, rest) := by
  obtain ⟨before, after, hs, rfl, ho, hb⟩ := h
  rw [hs, takeOffer_append after ho hb]

theorem takeOffer_eq_none {b : MarkTaker} {l : List MarkOffer} (h : ∀ o ∈ l, o.taker ≠ b) : takeOffer b l = none := by
  induction l with
  | nil => rfl
  | cons x l ih =>
    have hx : x.taker ≠ b := h x (List.mem_cons_self ..)
    have ih := ih fun y hy => h y (List.mem_cons_of_mem _ hy)
    simp [takeOffer, hx, ih]

/-- A block that finds a mark on its way reacts to it, and the notices of that event are placed (R24, R157). -/
theorem takeMark_of_offer {b : MarkTaker} {o : MarkOffer} {rest : List MarkOffer}
    (h : takeOffer b s.timer.offers = some (o, rest)) :
    s.takeMark b = (State.react { s with timer := { s.timer with offers := rest } } o).settleNotices := by
  simp only [State.takeMark, h]

/-- A block with no mark on its way does nothing (R24). -/
theorem takeMark_of_no_offer {b : MarkTaker} (h : ∀ o ∈ s.timer.offers, o.taker ≠ b) : s.takeMark b = s := by
  simp only [State.takeMark, takeOffer_eq_none h]

/-! ## No reaction to a mark touches the marks on their way -/

/-- An operation that keeps the timer keeps the marks on their way. -/
theorem offers_of_keeps {s t : State} {l : List Block} (h : s.keepsAllBut t l) (ht : .timer ∉ l) :
    t.timer.offers = s.timer.offers := congrArg Timer.offers (h .timer ht)

/-- The marks on their way stay through a fold when each of its steps keeps them. -/
theorem foldl_offers {α : Type} {f : State → α → State} (h : ∀ s x, (f s x).timer.offers = s.timer.offers)
    (l : List α) (s : State) : (l.foldl f s).timer.offers = s.timer.offers := by
  induction l generalizing s with
  | nil => rfl
  | cons x l ih => exact (ih _).trans (h s x)

@[simp] theorem voidEntry_offers (k : Nat) (r : VoidReason) (ticket : Byte) :
    (s.voidEntry k r ticket).timer.offers = s.timer.offers := rfl

@[simp] theorem departFrom_offers (ch : Channel) (e : ChangeEntry) :
    (State.departFrom ch s e).timer.offers = s.timer.offers := by
  unfold State.departFrom
  split
  · rfl
  · split <;> rfl

@[simp] theorem depart_offers (ch : Channel) (f : ChangeEntry → Bool) :
    (s.depart ch f).timer.offers = s.timer.offers := foldl_offers (fun s e => departFrom_offers s ch e) _ s

@[simp] theorem leaveVoters_offers (ch : Channel) (was : ChannelState) :
    (s.leaveVoters ch was).timer.offers = s.timer.offers := by
  have emptied : (if was.isVoter then s.emptyQueue ch else s).timer.offers = s.timer.offers := by split <;> rfl
  unfold State.leaveVoters
  simp only
  split
  · rw [depart_offers, emptied]
  · exact emptied

@[simp] theorem excludeChannel_offers (r : ExclusionReason) (ch : Channel) :
    (s.excludeChannel r ch).timer.offers = s.timer.offers := by simp [State.excludeChannel]

@[simp] theorem settleMembership_offers (before : State) :
    (State.settleMembership before s).timer.offers = s.timer.offers :=
  offers_of_keeps (s.settleMembership_keeps before) (by decide)

@[simp] theorem recomputeGroup_offers : s.recomputeGroup.timer.offers = s.timer.offers :=
  offers_of_keeps s.recomputeGroup_keeps (by decide)

@[simp] theorem settleNotices_offers : s.settleNotices.timer.offers = s.timer.offers :=
  offers_of_keeps s.settleNotices_keeps (by decide)

@[simp] theorem closeMembership_offers (res : RoundResult) (claims : List Channel) :
    (s.closeMembership res claims).timer.offers = s.timer.offers := by
  have probation := foldl_offers (fun s ch => offers_of_keeps (State.updateProbation_keeps s res ch) (by decide))
    Channel.all (claims.foldl (fun s ch => s.excludeChannel .score ch) s)
  have exclusions := foldl_offers (fun s ch => excludeChannel_offers s .score ch) claims s
  exact (settleMembership_offers _ _).trans (probation.trans exclusions)

@[simp] theorem weighClose_offers (res : PerChannel (Option ChannelResult)) :
    (s.weighClose res).1.timer.offers = s.timer.offers := offers_of_keeps (s.weighClose_keeps res) (by decide)

@[simp] theorem moveOutput_offers (o : RoundOutcome) : (s.moveOutput o).timer.offers = s.timer.offers :=
  offers_of_keeps (s.moveOutput_keeps o) (by decide)

@[simp] theorem produce_offers (res : RoundResult) : (s.produce res).timer.offers = s.timer.offers :=
  offers_of_keeps (s.produce_keeps res) (by decide)

@[simp] theorem closeRound_offers (r : Round) (cause : CloseCause) :
    (s.closeRound r cause).timer.offers = s.timer.offers := by
  unfold State.closeRound
  split
  · simp only [closeMembership_offers, produce_offers, moveOutput_offers, weighClose_offers]
    rfl
  · exact offers_of_keeps (s.removeRound_keeps _) (by decide)

theorem capacityClose_offers : s.capacityClose.timer.offers = s.timer.offers := by
  unfold State.capacityClose
  split
  · split
    · split <;> simp
    · rfl
  · rfl

theorem windowTakesMark_offers (c : Cycle) (deadline : Tick) :
    (s.windowTakesMark c deadline).timer.offers = s.timer.offers := by
  unfold State.windowTakesMark
  split
  · rfl
  · exact (offers_of_keeps (State.checkComplete_keeps _ _) (by decide)).trans (capacityClose_offers s)

theorem changesTakeMark_offers (c : Cycle) : (s.changesTakeMark c).timer.offers = s.timer.offers :=
  foldl_offers (fun s (e : ChangeEntry) => voidEntry_offers s 0 .expired e.ticket) _ s

theorem demote_offers (members : ChannelSet) (ch : Channel) :
    (State.demote members s ch).timer.offers = s.timer.offers := by
  unfold State.demote
  simp only
  split
  · simp
  · rfl

theorem activateGroup_offers (r : GroupRecord) : (s.activateGroup r).timer.offers = s.timer.offers :=
  (settleMembership_offers _ _).trans <|
    (foldl_offers (fun s ch => excludeChannel_offers s .score ch) _ _).trans <|
    foldl_offers (fun s ch => demote_offers s r.members ch) _ s

theorem activateKind_offers (w : Awaiting) : (s.activateKind w).timer.offers = s.timer.offers := by
  unfold State.activateKind
  cases w.kind with
  | group => exact activateGroup_offers s _
  | schema => exact recomputeGroup_offers _
  | pardon ch => rfl

theorem storeTakesMark_offers (c : Cycle) : (s.storeTakesMark c).timer.offers = s.timer.offers := by
  unfold State.storeTakesMark
  split
  · next w _ =>
    split
    · exact activateKind_offers ((s.install w).dropCommitted) w
    · rfl
  · rfl

/-- A block's reaction to a mark leaves the marks on their way to the others (R24). -/
theorem react_offers (o : MarkOffer) : (s.react o).timer.offers = s.timer.offers := by
  unfold State.react
  cases o.taker with
  | roundWindow => exact windowTakesMark_offers s _ _
  | port ch => exact offers_of_keeps (s.portTakesMark_keeps ch _) (by decide)
  | membership => exact offers_of_keeps s.membersTakeMark_keeps (by decide)
  | changeTable => exact changesTakeMark_offers s _
  | store => exact storeTakesMark_offers s _

theorem takeMark_offers {b : MarkTaker} {o : MarkOffer} {rest : List MarkOffer}
    (h : takeOffer b s.timer.offers = some (o, rest)) : (s.takeMark b).timer.offers = rest := by
  rw [takeMark_of_offer s h, settleNotices_offers, react_offers]

/-- When every block has taken what it owed, no mark is on its way (R60). -/
theorem takeOwed_offers : s.takeOwed.timer.offers = [] := by
  suffices h : ∀ (l : List MarkOffer) (s : State), s.timer.offers = l →
      ((l.map (·.taker)).foldl State.takeMark s).timer.offers = [] from h _ s rfl
  intro l
  induction l with
  | nil => exact fun s h => h
  | cons o l ih =>
    intro s h
    refine ih _ (takeMark_offers s (o := o) ?_)
    rw [h]
    exact takeOffer_append (before := []) l rfl (by simp)

/-! ## Opening a cycle (R22) -/

/-- The whole of a mark with every block named in turn: what is owed, the opening, and the blocks that take it at once. -/
theorem exec_opens_eq_runAll (blocks : List MarkTaker) :
    exec (.mark (.opens blocks)) s =
      runAll (s.timer.offers.map (fun o => .mark (.takes [o.taker]))
        ++ .mark (.opens []) :: blocks.map fun b => .mark (.takes [b])) s := by
  have owed : runAll (s.timer.offers.map fun o => .mark (.takes [o.taker])) s = .next s.takeOwed := by
    simpa only [List.map_map, Function.comp_def, State.takeOwed] using runAll_takes s (s.timer.offers.map (·.taker))
  have opened : exec (.mark (.opens [])) s.takeOwed = .next s.takeOwed.openCycle :=
    congrArg (fun t => Host.Outcome.next (State.openCycle t)) (State.takeOwed_of_none _ (takeOwed_offers s))
  rw [runAll_append s owed]
  simp only [runAll, opened, runAll_takes]
  rfl

theorem openCycle_of_stopped (h : s.timer.running = none) : s.openCycle = s := by simp only [State.openCycle, h]

theorem reachTick_eq (t : Tick) :
    s.reachTick t =
      { s with timer := { s.timer with tickCount := if older s.timer.tickCount t then t else s.timer.tickCount } } := by
  unfold State.reachTick
  split <;> rfl

end Sys2Proof.Proofs.CycleTimer

open Sys2Proof Sys2Proof.Machine Sys2Proof.Proofs.CycleTimer

/-- Settles O8: each clause by what `takeMark` does with and without an offer; the last by `takeOwed_offers`, which says that
an opening after the owed marks owes nothing more. -/
theorem markOpensCycle : Obligations.MarkOpensCycle := by
  unfold Obligations.MarkOpensCycle
  intro s
  refine ⟨fun hstopped hnone => ?_, fun run cfg hrun hnone hcfg => ?_, fun b hb => ?_, fun blocks => ?_,
    fun blocks => exec_opens_eq_runAll s blocks⟩
  · change Host.Outcome.next s.takeOwed.openCycle = .next s
    rw [s.takeOwed_of_none hnone, openCycle_of_stopped s hstopped]
  · change Host.Outcome.next s.takeOwed.openCycle = .next _
    rw [s.takeOwed_of_none hnone]
    simp only [State.openCycle, hrun, hcfg, reachTick_eq, hnone]
    rfl
  · exact congrArg Host.Outcome.next (takeMark_of_no_offer s hb)
  · exact (runAll_takes s blocks).symm

end

section
/-! Lemmas about the notices of an event that offers one alone (R157). -/

namespace Sys2Proof.Proofs.EventNotices

open Sys2Proof.Machine

variable (s : State)

theorem offeredAll_singleton {p q : Port} {n : Notice} (h : p.offeredAll q [n]) : q = p.offered n := by
  obtain ⟨order, hperm, rfl⟩ := h
  obtain rfl := List.perm_singleton.mp hperm
  rfl

theorem offeredAll_nil {p q : Port} (h : p.offeredAll q []) : q = p := by
  obtain ⟨order, hperm, rfl⟩ := h
  obtain rfl := List.perm_nil.mp hperm
  rfl

theorem settleNotices_timer : s.settleNotices.timer = s.timer := s.settleNotices_keeps .timer (by decide)

theorem settleNotices_part : s.settleNotices.part = s.part := s.settleNotices_keeps .part (by decide)

theorem settleNotices_changes : s.settleNotices.changes = s.changes := s.settleNotices_keeps .changes (by decide)

theorem settleNotices_standing : s.settleNotices.standing = s.standing := s.settleNotices_keeps .standing (by decide)

/-- An event that broadcasts one notice offers it to every port. -/
theorem settleNotices_port_of_broadcast {n : Notice} (h : s.outbox = [⟨0, none, n⟩]) (ch : Channel) :
    s.settleNotices.ports.get ch = (s.ports.get ch).offered n := by
  have offers := s.settleNotices_offeredAll ch (by simp [h])
  rw [show noticesFor s.outbox ch 0 = [n] by simp [noticesFor, h]] at offers
  exact offeredAll_singleton offers

/-- An event that sends one notice to one channel offers it to that channel's port alone. -/
theorem settleNotices_port_of_send {n : Notice} {ch : Channel} (h : s.outbox = [⟨0, some ch, n⟩]) (o : Channel) :
    s.settleNotices.ports.get o = if o = ch then (s.ports.get o).offered n else s.ports.get o := by
  have offers := s.settleNotices_offeredAll o (by simp [h])
  by_cases ho : o = ch
  · rw [show noticesFor s.outbox o 0 = [n] by simp [noticesFor, h, ho]] at offers
    rw [if_pos ho, offeredAll_singleton offers]
  · rw [show noticesFor s.outbox o 0 = [] by simp [noticesFor, h, Ne.symm ho]] at offers
    rw [if_neg ho, offeredAll_nil offers]

/-- The frame of an event as a whole: once its notices are placed, the outbox is empty as it was before it. -/
theorem keeps_settleNotices {s t : State} {l m : List Block} (h : s.keepsAllBut t l) (hs : s.outbox = [])
    (hl : ∀ b ∈ l, b = .outbox ∨ b ∈ m) (hp : .ports ∈ m) : s.keepsAllBut t.settleNotices m := by
  intro b hb
  by_cases ho : b = .outbox
  · subst ho
    exact t.settleNotices_outbox.trans hs.symm
  · have kept : s.sameBlock t b := h b fun hbl => (hl b hbl).elim ho hb
    refine kept.trans (t.settleNotices_keeps b ?_)
    rintro (_ | ⟨_, _ | ⟨_, hn⟩⟩)
    · exact hb hp
    · exact ho rfl
    · cases hn

theorem outbox_eq_nil {s : State} (hs : Sound s) : s.outbox = [] := eq_of_beq hs.outbox

end Sys2Proof.Proofs.EventNotices
end

section
/-! Lemmas about a founding expiry and the FOUND entry it voids (R28, R143). -/

namespace Sys2Proof.Proofs.FoundingExpiry

open Sys2Proof.Machine

variable (s : State)

/-! ## Founding expiries and FOUND entries agree (R28) -/

/-- What a sound Change Table and its founding expiries agree on. -/
theorem changes_parts {s : State} (hs : Sound s) :
    (∀ e ∈ s.changes.entries, s.entrySound e = true) ∧ (s.changes.entries.map (·.ticket)).Nodup
      ∧ s.timer.foundingExpiries.map (·.ticket) = (s.changes.entries.filter (·.isFound)).map (·.ticket) := by
  have h := hs.changes
  simp only [State.changesSound, Bool.and_eq_true, decide_eq_true_eq, List.all_eq_true, beq_iff_eq] at h
  obtain ⟨⟨⟨entries, tickets⟩, -⟩, foundings⟩ := h
  exact ⟨entries, tickets, foundings⟩

/-- Each founding expiry has a ticket of its own. -/
theorem foundingTickets_nodup {s : State} (hs : Sound s) : (s.timer.foundingExpiries.map (·.ticket)).Nodup := by
  obtain ⟨-, tickets, foundings⟩ := changes_parts hs
  rw [foundings]
  exact tickets.sublist (List.filter_sublist.map _)

/-- A FOUND entry stands while no configuration is installed, when none can be awaited, so it is never COMMITTED. -/
theorem isPending_of_isFound {s : State} (hs : Sound s) {e : ChangeEntry} (he : e ∈ s.changes.entries)
    (hf : e.isFound = true) : e.isPending = true := by
  obtain ⟨entries, -, -⟩ := changes_parts hs
  have h := entries e he
  cases hst : e.state with
  | pending => simp [ChangeEntry.isPending, hst]
  | committed activation =>
    have installed : s.store.installed = none := by
      simp only [State.entrySound, hf, State.isEmpty, Bool.and_eq_true, beq_iff_eq] at h
      obtain ⟨⟨⟨-, isEmpty⟩, -⟩, -⟩ := h
      simpa using isEmpty.symm
    have awaiting : s.store.awaiting = none := by
      have hstore := hs.store
      simp only [Store.sound, installed, Bool.and_eq_true] at hstore
      obtain ⟨⟨⟨⟨awaiting, -⟩, -⟩, -⟩, -⟩ := hstore
      simpa using awaiting
    simp [State.entrySound, hst, awaiting] at h

/-- A founding expiry belongs to a PENDING FOUND entry of its ticket (R28). -/
theorem found_entry_of_expiry {s : State} (hs : Sound s) {x : FoundingExpiry} (hx : x ∈ s.timer.foundingExpiries) :
    (s.changes.entries.any fun e => e.ticket == x.ticket && e.isPending && e.isFound) = true := by
  obtain ⟨-, -, foundings⟩ := changes_parts hs
  have hmem : x.ticket ∈ s.timer.foundingExpiries.map (·.ticket) := List.mem_map_of_mem hx
  rw [foundings] at hmem
  obtain ⟨e, he, ht⟩ := List.mem_map.mp hmem
  obtain ⟨he, hf⟩ := List.mem_filter.mp he
  exact List.any_eq_true.mpr ⟨e, he, by simp [ht, hf, isPending_of_isFound hs he hf]⟩

/-! ## A founding expiry reached (R28, R143) -/

theorem reachFoundingExpiry_of_absent {ticket : Byte} (h : ∀ x ∈ s.timer.foundingExpiries, x.ticket ≠ ticket) :
    s.reachFoundingExpiry ticket = s := by
  have hnone : (s.timer.foundingExpiries.find? fun e => e.ticket == ticket) = none :=
    List.find?_eq_none.mpr fun x hx => by simpa using h x hx
  simp only [State.reachFoundingExpiry, hnone]

/-- The part when the tick count has reached a founding expiry and the timer has dropped it. -/
def timeReached (x : FoundingExpiry) : State := (s.reachTick x.tick).dropFoundingExpiry x.ticket

theorem timeReached_keeps (x : FoundingExpiry) : s.keepsAllBut (timeReached s x) [.timer] :=
  (s.reachTick_keeps x.tick).trans (State.dropFoundingExpiry_keeps _ _)

theorem timeReached_timer (x : FoundingExpiry) :
    (timeReached s x).timer = { s.timer with
      tickCount := if older s.timer.tickCount x.tick then x.tick else s.timer.tickCount
      foundingExpiries := s.timer.foundingExpiries.filter fun e => e.ticket != x.ticket } := by
  simp only [timeReached, State.dropFoundingExpiry_timer, State.reachTick]
  split <;> rfl

/-- The expiry found for a ticket is the one that the timer holds, and its entry is voided. -/
theorem reachFoundingExpiry_of_mem {s : State} (hs : Sound s) {x : FoundingExpiry}
    (hx : x ∈ s.timer.foundingExpiries) :
    s.reachFoundingExpiry x.ticket = (timeReached s x).voidEntry 0 .expired x.ticket := by
  have hfind : (s.timer.foundingExpiries.find? fun e => e.ticket == x.ticket) = some x := by
    obtain ⟨y, hy⟩ := Option.isSome_iff_exists.mp
      (List.find?_isSome.mpr ⟨x, hx, beq_self_eq_true x.ticket⟩ :
        (s.timer.foundingExpiries.find? fun e => e.ticket == x.ticket).isSome = true)
    have hticket : y.ticket = x.ticket := by simpa using List.find?_some hy
    rw [hy, List.inj_on_of_nodup_map (foundingTickets_nodup hs) (List.mem_of_find?_eq_some hy) hx hticket]
  have hentry : ((timeReached s x).changes.entries.any fun e =>
      e.ticket == x.ticket && e.isPending && e.isFound) = true := by
    rw [show (timeReached s x).changes = s.changes from timeReached_keeps s x .changes (by decide)]
    exact found_entry_of_expiry hs hx
  simp only [State.reachFoundingExpiry, hfind]
  exact if_pos hentry

/-- What the void at a founding expiry leaves in the table, the timer, the counters and the outbox (R28, R108, R143). -/
theorem void_changes (x : FoundingExpiry) :
    ((timeReached s x).voidEntry 0 .expired x.ticket).changes =
      { s.changes with entries := s.changes.entries.filter fun e => e.ticket != x.ticket } := by
  simp [State.voidEntry, show (timeReached s x).changes = s.changes from timeReached_keeps s x .changes (by decide)]

theorem void_timer (x : FoundingExpiry) :
    ((timeReached s x).voidEntry 0 .expired x.ticket).timer = { s.timer with
      tickCount := if older s.timer.tickCount x.tick then x.tick else s.timer.tickCount
      foundingExpiries := s.timer.foundingExpiries.filter fun e => e.ticket != x.ticket } := by
  simp [State.voidEntry, timeReached_timer]

theorem void_part (x : FoundingExpiry) :
    ((timeReached s x).voidEntry 0 .expired x.ticket).part =
      { s.part with changesVoided := min (s.part.changesVoided + 1) 65535 } := by
  simp [State.voidEntry, saturate16, show (timeReached s x).part = s.part from timeReached_keeps s x .part (by decide)]

theorem void_outbox (x : FoundingExpiry) (h : s.outbox = []) :
    ((timeReached s x).voidEntry 0 .expired x.ticket).outbox = [⟨0, none, .changeVoided x.ticket .expired⟩] := by
  have kept : (timeReached s x).outbox = s.outbox := timeReached_keeps s x .outbox (by decide)
  simp [State.voidEntry, kept, h]

end Sys2Proof.Proofs.FoundingExpiry

open Sys2Proof Sys2Proof.Machine Sys2Proof.Proofs.EventNotices Sys2Proof.Proofs.FoundingExpiry

/-- Settles O18: a sound part holds for each founding expiry one PENDING FOUND entry of its ticket
(`found_entry_of_expiry`), and the expiry's event voids that entry. -/
theorem foundingExpiryVoidsTheEntry : Obligations.FoundingExpiryVoidsTheEntry := by
  unfold Obligations.FoundingExpiryVoidsTheEntry
  intro s ticket hs
  constructor
  · intro habsent
    refine congrArg Host.Outcome.next ?_
    rw [reachFoundingExpiry_of_absent s habsent, s.settleNotices_of_empty (outbox_eq_nil hs)]
  · rintro x hx rfl
    have kept := ((timeReached_keeps s x).mono (by decide)).trans
      ((timeReached s x).voidEntry_keeps 0 .expired x.ticket)
    have ports : ((timeReached s x).voidEntry 0 .expired x.ticket).ports = s.ports := kept .ports (by decide)
    refine ⟨_, congrArg (fun t => Host.Outcome.next (State.settleNotices t)) (reachFoundingExpiry_of_mem hs hx),
      ?_, ?_, ?_, fun ch => ?_, keeps_settleNotices kept (outbox_eq_nil hs) (by decide) (by decide)⟩
    · rw [settleNotices_changes, void_changes]
    · rw [settleNotices_timer, void_timer]
    · rw [settleNotices_part, void_part]
    · rw [settleNotices_port_of_broadcast _ (void_outbox s x (outbox_eq_nil hs)), ports]

end

section
/-! Lemmas about a CHANGE: what its payload decodes to, its table of checks, and the entry it creates (R129 to R132). -/

namespace Sys2Proof.Proofs.ChangeRequest

open Sys2Proof.Machine Sys2Proof.Proofs.EventNotices

variable (s : State) (ch : Channel)

/-! ## Codes and payloads (R130, R173) -/

theorem channelOfCode_eq_some {b : Byte} {ch : Channel} : channelOfCode b = some ch ↔ b = channelCode ch := by
  revert b ch
  have h : ∀ b : Byte, ∀ ch ∈ Channel.all, channelOfCode b = some ch ↔ b = channelCode ch := by decide
  exact fun {b ch} => h b ch ch.mem_all

theorem changeKindOfCode_eq_some {b : Byte} {kind : ChangeKind} :
    changeKindOfCode b = some kind ↔ b = changeKindCode kind := by
  revert b
  cases kind <;> decide

theorem validRecord_eq_some {bytes : List Byte} {r : GroupRecord} :
    validRecord bytes = some r ↔ decodeRecord bytes = some r ∧ r.valid = true := by
  unfold validRecord
  cases decodeRecord bytes with
  | none => simp
  | some q =>
    by_cases hq : q.valid = true
    · simp only [if_pos hq, Option.some.injEq, iff_self_and]
      rintro rfl
      exact hq
    · simp only [if_neg hq, Option.some.injEq, reduceCtorEq, false_iff, not_and]
      rintro rfl
      exact hq

section Payloads

variable (installed : ChannelSet) (bytes : List Byte) (x : Payload)

theorem decodePayload_found : decodePayload .found installed bytes = some x ↔
    ∃ r items, validRecord (bytes.take 17) = some r ∧ decodeSchema (bytes.drop 17) = some items ∧ x = .found r items := by
  unfold decodePayload
  cases validRecord (bytes.take 17) <;> cases decodeSchema (bytes.drop 17) <;> simp [eq_comm]

theorem decodePayload_group : decodePayload .group installed bytes = some x ↔
    ∃ r, validRecord bytes = some r ∧ x = .group r := by
  simp [decodePayload, eq_comm]

theorem decodePayload_schema : decodePayload .schema installed bytes = some x ↔
    ∃ items, decodeSchema bytes = some items ∧ x = .schema items := by
  simp [decodePayload, eq_comm]

theorem decodePayload_pardon : decodePayload .pardon installed bytes = some x ↔
    ∃ ch, installed.get ch = true ∧ bytes = [channelCode ch] ∧ x = .pardon ch := by
  match bytes with
  | [] => simp [decodePayload]
  | _ :: _ :: _ => simp [decodePayload]
  | [letter] =>
    simp only [decodePayload, List.cons.injEq, and_true, ← channelOfCode_eq_some]
    cases hl : channelOfCode letter with
    | none => simp
    | some o => cases hm : installed.get o <;> simp [eq_comm (b := x), hm]

theorem decodePayload_dissolve : decodePayload .dissolve installed bytes = some x ↔ bytes = [] ∧ x = .dissolve := by
  by_cases hb : bytes = []
  · simp [decodePayload, hb, eq_comm (a := x)]
  · simp [decodePayload, hb]

/-- A payload is of the kind that it was decoded for (R128). -/
theorem kind_of_decodePayload {kind : ChangeKind} {installed : ChannelSet} {bytes : List Byte} {x : Payload}
    (h : decodePayload kind installed bytes = some x) : x.kind = kind := by
  cases kind with
  | found =>
    obtain ⟨_, _, _, _, rfl⟩ := (decodePayload_found ..).mp h
    rfl
  | group =>
    obtain ⟨_, _, rfl⟩ := (decodePayload_group ..).mp h
    rfl
  | schema =>
    obtain ⟨_, _, rfl⟩ := (decodePayload_schema ..).mp h
    rfl
  | pardon =>
    obtain ⟨_, _, _, rfl⟩ := (decodePayload_pardon ..).mp h
    rfl
  | dissolve =>
    obtain ⟨_, rfl⟩ := (decodePayload_dissolve ..).mp h
    rfl

/-- A payload comes from the bytes of its own kind alone (R130). -/
theorem decodePayload_eq_some_iff (kind : ChangeKind) : decodePayload kind installed bytes = some x ↔
    kind = x.kind ∧ decodePayload x.kind installed bytes = some x := by
  constructor
  · intro h
    rw [kind_of_decodePayload h]
    exact ⟨rfl, h⟩
  · rintro ⟨rfl, h⟩
    exact h

end Payloads

/-- Only a FOUND payload has members to be founded (R128). -/
theorem foundingMembers_isSome (x : Payload) : x.foundingMembers.isSome = decide (x.kind = .found) := by
  cases x <;> rfl

/-! ## A good frame received in UP (R149, R152, R153) -/

/-- The part when a good frame has been heard at a port that is UP, and before its owner has taken it. -/
def heard : State :=
  ((s.reopenFrame ch).count ch .framesGood).modPort ch fun p => { p with badRun := 0 }

theorem heard_keeps : s.keepsAllBut (heard s ch) [.standing, .ports] := fun b hb => by
  cases b <;> simp_all [State.sameBlock, heard]

theorem heard_port (o : Channel) : (heard s ch).ports.get o = s.heardPort ch o := by
  by_cases h : o = ch <;> simp [heard, State.heardPort, PerChannel.get_set, h]

theorem heard_standing (o : Channel) : (heard s ch).standing.get o = s.heardStanding ch o := by
  by_cases h : o = ch <;>
    simp [heard, State.heardStanding, State.count, State.modStanding, PerChannel.get_set, State.reopenFrame, h,
      State.modPort]

theorem heardPort_line (o : Channel) : (s.heardPort ch o).line = (s.ports.get o).line := by
  by_cases h : o = ch <;> simp [State.heardPort, h]

variable {s ch}

theorem receiveGood_of_up (hpin : s.resetPin = .high) (hup : (s.ports.get ch).line = .up) (hand : State → State) :
    s.receiveGood ch hand = (hand (heard s ch)).settleNotices := by
  simp [State.receiveGood, State.receiving, State.judgedGood, hpin, hup, heard]

/-- A refusal alone in its event: the frame is counted, REFUSED joins the requester's queue, and nothing else changes. -/
theorem refusedOnly_of_refuse (hout : s.outbox = []) (hup : (s.ports.get ch).line = .up) (request : Byte)
    (reason : RefusalReason) :
    s.refusedOnly (((heard s ch).refuse ch request reason).settleNotices) ch request reason := by
  have outbox : ((heard s ch).refuse ch request reason).outbox = [⟨0, some ch, .refused request reason⟩] := by
    simp [heard, hout]
  refine ⟨fun o => ?_, fun o => ?_, ?_⟩
  · rw [settleNotices_standing, State.refuse_standing, heard_standing]
  · rw [settleNotices_port_of_send _ outbox, State.refuse_ports, heard_port]
    by_cases ho : o = ch
    · subst ho
      simp [Port.offered, heardPort_line, hup]
    · simp [ho]
  · exact keeps_settleNotices (((heard_keeps s ch).mono (by decide)).trans
      ((State.refuse_keeps _ ch request reason).mono (m := [.standing, .ports, .outbox]) (by decide))) hout
      (by decide) (by decide)

/-! ## The table of checks (R129) -/

theorem firstMet_nil {β : Type} : firstMet ([] : List (Bool × β)) = none := rfl

theorem firstMet_cons {β : Type} (b : Bool) (r : β) (l : List (Bool × β)) :
    firstMet ((b, r) :: l) = if b = true then some r else firstMet l := by
  cases b <;> simp [firstMet]

theorem firstMet_append {β : Type} (l m : List (Bool × β)) : firstMet (l ++ m) = (firstMet l).or (firstMet m) := by
  simp only [firstMet, List.find?_append]
  cases l.find? (·.1) <;> rfl

/-- Checks 1 to 4 of R129, over the fields of a CHANGE. -/
def requestChecks (s : State) (ch : Channel) (f : ChangeFields) : List (Bool × RefusalReason) :=
  [ (s.isEmpty && f.kind != .found, .noGroup),
    (!s.isEmpty && f.kind == .found, .wrongState),
    (!s.isEmpty && s.channelState ch != .voting, .notVoter),
    (s.isEmpty && s.channelState ch != .linked, .wrongState),
    (f.baseEpoch != s.store.currentEpoch, .staleEpoch),
    ((s.changes.entries.any fun e => !e.isPending) || s.store.awaiting.isSome || s.changes.entries.length == 2, .busy) ]

/-- Checks 5 and 6 of R129, over the fields of a CHANGE. -/
def payloadChecks (s : State) (ch : Channel) (f : ChangeFields) : List (Bool × RefusalReason) :=
  [ (!((decodePayload f.kind s.installedMembers f.content).isSome && f.digest == crc32 f.content), .badField),
    (f.kind == .found && !((validRecord (f.content.take 17)).any fun r => r.members.get ch), .notMember),
    (f.kind != .found && f.kind != .dissolve && s.store.currentEpoch == 0xFFFFFFFF#32, .epochLimit) ]

/-- The bytes that the fields of a CHANGE are read from. -/
theorem decodeChange_eq_some {p : List Byte} {f : ChangeFields} : decodeChange p = some f ↔
    9 ≤ p.length ∧ p.getD 0 0 = changeKindCode f.kind ∧ f.baseEpoch = field32 p 1 ∧ f.digest = field32 p 5
      ∧ f.content = p.drop 9 := by
  obtain ⟨kind, baseEpoch, digest, content⟩ := f
  by_cases hlen : p.length < 9
  · simp [decodeChange, hlen, Nat.not_le.mpr hlen]
  · simp only [decodeChange, if_neg hlen, Option.map_eq_some_iff, changeKindOfCode_eq_some, ChangeFields.mk.injEq,
      Nat.not_lt.mp hlen, true_and]
    constructor
    · rintro ⟨k, hk, rfl, rfl, rfl, rfl⟩
      exact ⟨hk, rfl, rfl, rfl⟩
    · rintro ⟨hk, rfl, rfl, rfl⟩
      exact ⟨kind, hk, rfl, rfl, rfl, rfl⟩

/-- A code from 1 to 5 is that of a kind (R173). -/
theorem changeKindOfCode_eq_none {b : Byte} (h : changeKindOfCode b = none) : ¬ (1 ≤ b.toNat ∧ b.toNat ≤ 5) := by
  revert b
  decide

/-- A CHANGE that is too short or of no kind fails check 0. -/
theorem firstMet_changeTable_of_undecoded {p : List Byte} (h : decodeChange p = none) :
    firstMet (s.changeTable ch p) = some .badField := by
  have met : p.length < 9 ∨ ¬ (1 ≤ (p.getD 0 0).toNat ∧ (p.getD 0 0).toNat ≤ 5) := by
    by_cases hlen : p.length < 9
    · exact .inl hlen
    · simp only [decodeChange, if_neg hlen, Option.map_eq_none_iff] at h
      exact .inr (changeKindOfCode_eq_none h)
  rw [State.changeTable, firstMet_cons, if_pos]
  simpa only [Bool.or_eq_true, decide_eq_true_eq, Bool.not_eq_true', ← Bool.not_eq_true, Bool.and_eq_true] using met

/-- The table of R129 for a CHANGE that passes check 0. -/
theorem changeTable_eq {p : List Byte} {f : ChangeFields} (h : decodeChange p = some f) :
    s.changeTable ch p = (false, .badField) :: (requestChecks s ch f ++ payloadChecks s ch f) := by
  obtain ⟨hlen, hkind, hbase, hdigest, hcontent⟩ := decodeChange_eq_some.mp h
  have hcode : changeKindOfCode (p.getD 0 0) = some f.kind := changeKindOfCode_eq_some.mpr hkind
  have inRange : 1 ≤ (p.getD 0 0).toNat ∧ (p.getD 0 0).toNat ≤ 5 := by rw [hkind]; cases f.kind <;> decide
  have isFound : (p.getD 0 0 == 1) = (f.kind == .found) := by rw [hkind]; cases f.kind <;> rfl
  have isDissolve : (p.getD 0 0 != 5) = (f.kind != .dissolve) := by rw [hkind]; cases f.kind <;> rfl
  simp only [State.changeTable, requestChecks, payloadChecks, hcode, isFound, isDissolve, ← hbase, ← hdigest, ← hcontent,
    inRange.1, inRange.2, Nat.not_lt.mpr hlen, Option.any_some, State.isEmpty, ChangeEntry.isPending, List.cons_append,
    List.nil_append, decide_true, decide_false, Bool.and_self, Bool.not_true, Bool.or_self]
  rfl

theorem changeRefusal_eq (hlen : s.changes.entries.length ≤ 2) (f : ChangeFields) :
    s.changeRefusal ch f = firstMet (requestChecks s ch f) := by
  have hbusy : (s.changes.entries.length == 2) = decide (2 ≤ s.changes.entries.length) := by
    rw [Bool.eq_iff_iff, beq_iff_eq, decide_eq_true_eq]
    omega
  simp only [requestChecks, firstMet_cons, firstMet_nil, State.changeRefusal, hbusy, bne_iff_ne]

/-- What is left of checks 5 and 6 of R129 for a payload that decodes and has its digest. -/
theorem firstMet_payloadChecks {f : ChangeFields} {x : Payload}
    (hp : decodePayload f.kind s.installedMembers f.content = some x) (hd : f.digest = crc32 f.content) :
    firstMet (payloadChecks s ch f) =
      firstMet [(x.kind == .found && !((validRecord (f.content.take 17)).any fun r => r.members.get ch), .notMember),
        (x.kind != .found && x.kind != .dissolve && s.store.currentEpoch == 0xFFFFFFFF#32, .epochLimit)] := by
  rw [kind_of_decodePayload hp, payloadChecks, firstMet_cons, if_neg]
  simp [hp, hd]

/-- Checks 5 and 6 of R129 decide what becomes of the payload: the reason of its refusal, or the payload decoded. -/
theorem changePayload_cases (s : State) (ch : Channel) (f : ChangeFields) :
    (∃ r, s.changePayload ch f = .error r ∧ firstMet (payloadChecks s ch f) = some r)
      ∨ ∃ x, s.changePayload ch f = .ok x ∧ firstMet (payloadChecks s ch f) = none
        ∧ decodePayload f.kind s.installedMembers f.content = some x := by
  cases hp : decodePayload f.kind s.installedMembers f.content with
  | none => exact .inl ⟨.badField, by simp [State.changePayload, hp], by simp [payloadChecks, firstMet_cons, hp]⟩
  | some x =>
    by_cases hd : f.digest = crc32 f.content
    · have hk := kind_of_decodePayload hp
      have checks := firstMet_payloadChecks (ch := ch) hp hd
      cases x with
      | found r items =>
        obtain ⟨r', _, hr, _, heq⟩ := (decodePayload_found ..).mp (hk ▸ hp)
        obtain ⟨rfl, rfl⟩ := Payload.found.inj heq
        cases hm : r.members.get ch with
        | true =>
          exact .inr ⟨_, by simp [State.changePayload, hp, hd, hm],
            by simp [checks, firstMet_cons, firstMet_nil, Payload.kind, hr, hm], rfl⟩
        | false =>
          exact .inl ⟨.notMember, by simp [State.changePayload, hp, hd, hm],
            by simp [checks, firstMet_cons, Payload.kind, hr, hm]⟩
      | dissolve =>
        exact .inr ⟨_, by simp [State.changePayload, hp, hd],
          by simp [checks, firstMet_cons, firstMet_nil, Payload.kind], rfl⟩
      | group _ | schema _ | pardon _ =>
        by_cases he : s.store.currentEpoch = 0xFFFFFFFF#32
        · exact .inl ⟨.epochLimit, by simp [State.changePayload, hp, hd, he],
            by simp [checks, firstMet_cons, Payload.kind, he]⟩
        · exact .inr ⟨_, by simp [State.changePayload, hp, hd, he],
            by simp [checks, firstMet_cons, firstMet_nil, Payload.kind, he], rfl⟩
    · exact .inl ⟨.badField, by simp [State.changePayload, hp, hd], by simp [payloadChecks, firstMet_cons, hd]⟩

/-- What the Change Table does with a CHANGE: refused with the reason of the first check met, or an entry created when none
is met (R129, R131). -/
theorem takeChange_cases (hlen : s.changes.entries.length ≤ 2) (ch : Channel) (p : List Byte) :
    (∃ r, firstMet (s.changeTable ch p) = some r ∧ s.takeChange ch p = s.refuse ch changeKindByte r)
      ∨ ∃ f x, firstMet (s.changeTable ch p) = none ∧ decodeChange p = some f ∧ s.changeRefusal ch f = none
        ∧ decodePayload f.kind s.installedMembers f.content = some x ∧ s.takeChange ch p = s.createEntry ch f x := by
  cases hf : decodeChange p with
  | none => exact .inl ⟨.badField, firstMet_changeTable_of_undecoded hf, by simp only [State.takeChange, hf]⟩
  | some f =>
    have table : firstMet (s.changeTable ch p) = (s.changeRefusal ch f).or (firstMet (payloadChecks s ch f)) := by
      rw [changeTable_eq hf, firstMet_cons, if_neg Bool.false_ne_true, firstMet_append, changeRefusal_eq hlen]
    cases hr : s.changeRefusal ch f with
    | some r => exact .inl ⟨r, by rw [table, hr, Option.some_or], by simp only [State.takeChange, hf, hr]⟩
    | none =>
      rw [hr, Option.none_or] at table
      obtain ⟨r, he, hm⟩ | ⟨x, hx, hm, hdec⟩ := changePayload_cases s ch f
      · exact .inl ⟨r, table.trans hm, by simp only [State.takeChange, hf, hr, he]⟩
      · exact .inr ⟨f, x, table.trans hm, rfl, hr, hdec, by simp only [State.takeChange, hf, hr, hx]⟩

/-! ## The entry created (R131) -/

/-- The entry that a CHANGE creates: PENDING, with the next ticket and its proposer as the one concurrence. -/
def newEntry (s : State) (ch : Channel) (f : ChangeFields) (x : Payload) : ChangeEntry where
  ticket := s.changes.nextTicket
  proposer := ch
  baseEpoch := f.baseEpoch
  payload := x
  payloadDigest := f.digest
  concurrence := ChannelSet.only ch
  expiry :=
    if x.kind = .found then none
    else (s.timer.running.map (·.nextCycle)).map
      (· + BitVec.ofNat 32 ((s.store.current.map (·.record.changeWindow)).getD 0))
  state := .pending

theorem only_get (ch x : Channel) : (ChannelSet.only ch).get x = decide (x = ch) := by
  simp [ChannelSet.only, ChannelSet.empty, PerChannel.get_set]

variable (f : ChangeFields) (x : Payload)

/-- What the creation of an entry does: the table, the founding expiry of a FOUND entry alone, and CHANGE_PENDING. -/
theorem createEntry_eq : s.createEntry ch f x =
    { s with
      changes := ⟨s.changes.entries ++ [newEntry s ch f x], s.changes.nextTicket⟩
      timer :=
        if x.kind = .found then
          { s.timer with foundingExpiries :=
              s.timer.foundingExpiries ++ [⟨s.changes.nextTicket, s.timer.tickCount + 2000000#32⟩] }
        else s.timer
      outbox := s.outbox ++
        [⟨0, none, .changePending s.changes.nextTicket x.kind ch f.digest (newEntry s ch f x).expiry⟩] } := by
  by_cases h : x.kind = .found <;>
    simp [State.createEntry, newEntry, foundingMembers_isSome, foundingWindow, State.broadcast, State.broadcastAt, h]

theorem createEntry_keeps : s.keepsAllBut (s.createEntry ch f x) [.changes, .timer, .outbox] := fun b hb => by
  rw [createEntry_eq]
  cases b <;> simp_all [State.sameBlock]

/-- A CHANGE that meets none of the checks 1 to 4 finds a group, or is a FOUND (R129). -/
theorem installed_of_not_found (h : s.changeRefusal ch f = none) (hk : f.kind ≠ .found) :
    ∃ cfg, s.store.installed = some cfg := by
  cases hi : s.store.installed with
  | none => simp [State.changeRefusal, State.isEmpty, hi, hk] at h
  | some cfg => exact ⟨cfg, rfl⟩

/-- In a configured part with RST_N high the timer runs (2.2). -/
theorem running_of_installed (hs : Sound s) (hpin : s.resetPin = .high) {cfg : Configuration}
    (hi : s.store.installed = some cfg) : ∃ run, s.timer.running = some run := by
  have h := hs.group
  simp only [State.groupAgrees, hi, hpin, Bool.and_eq_true] at h
  obtain ⟨-, ⟨⟨running, -⟩, -⟩, -⟩ := h
  exact Option.isSome_iff_exists.mp (by simpa using running)

/-- A configured part has a current configuration (R7). -/
theorem current_of_installed {cfg : Configuration} (hi : s.store.installed = some cfg) :
    ∃ cfg, s.store.current = some cfg := by
  unfold Store.current
  cases s.store.awaiting with
  | none => exact ⟨cfg, hi⟩
  | some w => exact ⟨w.config, rfl⟩

theorem entries_length_le (hs : Sound s) : s.changes.entries.length ≤ 2 := by
  have h := hs.bounded
  simp only [State.bounded, Bool.and_eq_true, decide_eq_true_eq] at h
  obtain ⟨⟨⟨⟨-, entries⟩, -⟩, -⟩, -⟩ := h
  exact entries

/-! ## A CHANGE heard in UP that creates its entry -/

/-- The part after a CHANGE received in UP has created its entry and its notice is placed. -/
def created (s : State) (ch : Channel) (f : ChangeFields) (x : Payload) : State :=
  ((heard s ch).createEntry ch f x).settleNotices

theorem created_changes : (created s ch f x).changes =
    { entries := s.changes.entries ++ [newEntry s ch f x], ticketCounter := s.changes.nextTicket } :=
  (settleNotices_changes _).trans (congrArg State.changes (createEntry_eq (s := heard s ch) f x))

theorem created_timer : (created s ch f x).timer = if x.kind = .found then
      { s.timer with foundingExpiries :=
          s.timer.foundingExpiries ++ [⟨s.changes.nextTicket, s.timer.tickCount + 2000000#32⟩] }
    else s.timer :=
  (settleNotices_timer _).trans (congrArg State.timer (createEntry_eq (s := heard s ch) f x))

theorem created_standing (o : Channel) : (created s ch f x).standing.get o = s.heardStanding ch o := by
  have kept : ((heard s ch).createEntry ch f x).standing = (heard s ch).standing :=
    createEntry_keeps f x .standing (by decide)
  rw [created, settleNotices_standing, kept, heard_standing]

theorem created_port (hout : s.outbox = []) (o : Channel) : (created s ch f x).ports.get o =
    (s.heardPort ch o).offered
      (.changePending s.changes.nextTicket x.kind ch f.digest (newEntry s ch f x).expiry) := by
  have kept : ((heard s ch).createEntry ch f x).ports = (heard s ch).ports := createEntry_keeps f x .ports (by decide)
  have notice : ((heard s ch).createEntry ch f x).outbox =
      [⟨0, none, .changePending s.changes.nextTicket x.kind ch f.digest (newEntry s ch f x).expiry⟩] := by
    rw [createEntry_eq]
    exact congrArg (· ++ _) hout
  rw [created, settleNotices_port_of_broadcast _ notice, kept, heard_port]

theorem created_keeps (hout : s.outbox = []) :
    s.keepsAllBut (created s ch f x) [.changes, .timer, .standing, .ports] :=
  keeps_settleNotices (((heard_keeps s ch).mono (by decide)).trans
    ((createEntry_keeps f x).mono (m := [.standing, .ports, .changes, .timer, .outbox]) (by decide))) hout
    (by decide) (by decide)

/-- In a group the entry expires change_window cycles after N, under the current configuration (R131). -/
theorem newEntry_expiry_of_not_found (hs : Sound s) (hpin : s.resetPin = .high) (hr : s.changeRefusal ch f = none)
    (hk : x.kind = f.kind) (hfound : f.kind ≠ .found) :
    ∃ run cfg, s.timer.running = some run ∧ s.store.current = some cfg
      ∧ (newEntry s ch f x).expiry = some (run.nextCycle + BitVec.ofNat 32 cfg.record.changeWindow) := by
  obtain ⟨cfg, installed⟩ := installed_of_not_found f hr hfound
  obtain ⟨run, hrun⟩ := running_of_installed hs hpin installed
  obtain ⟨current, hcurrent⟩ := current_of_installed installed
  exact ⟨run, current, hrun, hcurrent, by simp [newEntry, hk, hfound, hrun, hcurrent]⟩

end Sys2Proof.Proofs.ChangeRequest

open Sys2Proof Sys2Proof.Machine Sys2Proof.Proofs.EventNotices Sys2Proof.Proofs.ChangeRequest

/-- Settles O37: `takeChange_cases` reads the table of R129, and either the request is refused alone in its event
(`refusedOnly_of_refuse`) or its entry is created (the lemmas of `created`). -/
theorem changeFollowsItsTable : Obligations.ChangeFollowsItsTable := by
  unfold Obligations.ChangeFollowsItsTable
  refine ⟨fun kind installed bytes x => ?payload, fun bytes r => validRecord_eq_some, by decide,
    fun s cfg h => by simp [State.installedMembers, h], fun s ch p hpin hs hup => ?table⟩
  case payload =>
    rw [decodePayload_eq_some_iff]
    cases x with
    | found r items => simp [Payload.kind, decodePayload_found, validRecord_eq_some]
    | group r => simp [Payload.kind, decodePayload_group, validRecord_eq_some]
    | schema items => simp [Payload.kind, decodePayload_schema]
    | pardon ch => cases ch <;> simp [Payload.kind, decodePayload_pardon, channelCode]
    | dissolve => simp [Payload.kind, decodePayload_dissolve]
  case table =>
    have hlen : (heard s ch).changes.entries.length ≤ 2 := entries_length_le (s := s) hs
    refine ⟨_, congrArg Host.Outcome.next (receiveGood_of_up hpin hup _), ?_⟩
    obtain ⟨r, hmet, htake⟩ | ⟨f, x, hmet, hf, hr, hx, htake⟩ :=
      takeChange_cases hlen ch p
    · rw [htake, show firstMet (s.changeTable ch p) = some r from hmet]
      exact refusedOnly_of_refuse (outbox_eq_nil hs) hup _ r
    · rw [htake, show firstMet (s.changeTable ch p) = none from hmet]
      obtain ⟨-, hkind, hbase, hdigest, hcontent⟩ := decodeChange_eq_some.mp hf
      have hk : x.kind = f.kind := kind_of_decodePayload hx
      have timer := created_timer (s := s) (ch := ch) f x
      rw [hk] at timer
      refine ⟨newEntry s ch f x, f.kind, changeKindOfCode_eq_some.mpr hkind, hcontent ▸ hx, created_changes f x, rfl, rfl,
        hbase, hdigest, rfl, only_get ch, fun hfound => ⟨if_pos (hk.trans hfound), timer.trans (if_pos hfound)⟩,
        fun hfound => ⟨timer.trans (if_neg hfound), newEntry_expiry_of_not_found f x hs hpin hr hk hfound⟩,
        created_standing f x, fun o => ?_, created_keeps f x (outbox_eq_nil hs)⟩
      rw [← hk]
      exact created_port f x (outbox_eq_nil hs) o

end

section
/-! Lemmas about the part's own ready events, the release of RST_N and a port's mark slot (R20 to R25, R31, R74, R155, R156). -/

namespace Sys2Proof.Proofs.OwnEvents

open Sys2Proof.Machine Sys2Proof.Proofs.CycleTimer

variable (s : State)

/-! ## Which events are ready (log entry 5) -/

section Ready

variable {e : Instr}

theorem mem_readyClose :
    e ∈ s.readyClose ↔ e = .close ∧ ∃ r rest, s.window.rounds = r :: rest ∧ r.sealedBy ≠ none := by
  have oldest : s.window.oldestSealed.isSome = true ↔ ∃ r rest, s.window.rounds = r :: rest ∧ r.sealedBy ≠ none := by
    unfold Window.oldestSealed
    cases s.window.rounds <;> simp [Option.isSome_iff_ne_none]
  rw [State.readyClose, ← oldest]
  split <;> simp_all

theorem isFree_iff (p : Port) : p.isFree = true ↔ p.transmitter = .fill ∨ p.transmitter = .abandoned := by
  simp [Port.isFree]

theorem hasFrame_iff (p : Port) :
    p.hasFrame = true ↔ p.markSlot ≠ none ∨ p.notices ≠ [] ∨ p.verdicts ≠ [] ∨ p.replySlot ≠ none := by
  simp [Port.hasFrame, Option.isSome_iff_ne_none, or_assoc]

theorem mem_readyChoices :
    e ∈ s.readyChoices ↔ ∃ ch, e = .transmitChoice ch
      ∧ ((s.ports.get ch).transmitter = .fill ∨ (s.ports.get ch).transmitter = .abandoned)
      ∧ ((s.ports.get ch).markSlot ≠ none ∨ (s.ports.get ch).notices ≠ [] ∨ (s.ports.get ch).verdicts ≠ []
        ∨ (s.ports.get ch).replySlot ≠ none) := by
  simp only [State.readyChoices, List.mem_map, List.mem_filter, Channel.mem_all, true_and, Bool.and_eq_true,
    isFree_iff, hasFrame_iff]
  exact exists_congr fun ch => by rw [and_comm, eq_comm]

theorem mem_readyTakes : e ∈ s.readyTakes ↔ ∃ o ∈ s.timer.offers, e = .mark (.takes [o.taker]) := by
  simp [State.readyTakes, eq_comm]

theorem mem_readyMark :
    e ∈ s.readyMark ↔ ∃ run, s.timer.running = some run ∧ sameOrNewer s.timer.tickCount run.nextMark = true
      ∧ e = .mark (.opens []) := by
  unfold State.readyMark
  cases s.timer.running with
  | none => simp
  | some run => by_cases h : s.reached run.nextMark = true <;> simp_all [State.reached]

theorem mem_readyDeadlines :
    e ∈ s.readyDeadlines ↔ ∃ r ∈ s.window.rounds, r.sealedBy = none
      ∧ sameOrNewer s.timer.tickCount r.deadline = true ∧ e = .deadlineExpiry r.cycle := by
  simp [State.readyDeadlines, Round.isOpen, State.reached, and_assoc, eq_comm (a := e)]

theorem mem_readyFoundings :
    e ∈ s.readyFoundings ↔ ∃ x ∈ s.timer.foundingExpiries, sameOrNewer s.timer.tickCount x.tick = true
      ∧ e = .foundingExpiry x.ticket := by
  simp [State.readyFoundings, State.reached, and_assoc, eq_comm (a := e)]

end Ready

/-! ## The part with no command waiting -/

theorem step_of_no_command (h : s.pending = []) : step s = idle s := by simp only [step, h]

theorem idle_of_none_ready (h : s.readyEvents = []) : idle s = .next s.tick := by simp only [idle, h]

/-- Where events are ready, one of them is taken; a choice among several uses up one free value. -/
theorem idle_of_ready (h : s.readyEvents ≠ []) :
    ∃ e ∈ s.readyEvents, ∃ n, idle s = exec e { s with freeCount := n } := by
  match hl : s.readyEvents with
  | [] => exact absurd hl h
  | [e] => exact ⟨e, List.mem_singleton_self e, s.freeCount, by simp only [idle, hl]⟩
  | e :: e' :: rest =>
    have chosen : Config.nextEvent s.freeCount % (rest.length + 1 + 1) < (e :: e' :: rest).length :=
      Nat.mod_lt _ (Nat.succ_pos _)
    refine ⟨_, List.getElem_mem chosen, s.freeCount + 1, ?_⟩
    simp only [idle, hl, List.length_cons, List.getD_eq_getElem _ e chosen]

/-! ## A port takes a mark (R25, R156) -/

variable (ch : Channel) (c : Cycle)

theorem buildsMark_iff : (s.isUp ch && !s.isEmpty) = true ↔ (s.ports.get ch).line = .up ∧ s.store.installed ≠ none := by
  simp [State.isUp, State.isEmpty, Option.isSome_iff_ne_none]

theorem placeMark_port (f : MarkFrame) (x : Channel) : (s.placeMark ch f).ports.get x =
    if x = ch then { s.ports.get ch with markSlot := some f } else s.ports.get x := by
  have kept : (if (s.ports.get ch).markSlot.isSome then s.count ch .marksSkipped else s).ports = s.ports := by
    split <;> rfl
  simp only [State.placeMark, State.modPort_ports, kept, PerChannel.get_set]

theorem placeMark_standing (f : MarkFrame) (x : Channel) : (s.placeMark ch f).standing.get x =
    if x = ch ∧ (s.ports.get ch).markSlot ≠ none then
      { s.standing.get ch with counters := { (s.standing.get ch).counters with
          marksSkipped := min ((s.standing.get ch).counters.marksSkipped + 1) 65535 } }
    else s.standing.get x := by
  cases h : (s.ports.get ch).markSlot <;>
    simp [State.placeMark, h, State.count, State.modStanding, PerChannel.get_set, Counters.bump, saturate16]

theorem portTakesMark_of_builds (hup : (s.ports.get ch).line = .up) (hcfg : s.store.installed ≠ none) :
    s.portTakesMark ch c = s.placeMark ch ⟨c, s.store.epochInForce c, s.groupState, s.output.state⟩ :=
  if_pos ((buildsMark_iff s ch).mpr ⟨hup, hcfg⟩)

theorem portTakesMark_of_not (h : ¬ ((s.ports.get ch).line = .up ∧ s.store.installed ≠ none)) :
    s.portTakesMark ch c = s := if_neg ((buildsMark_iff s ch).not.mpr h)

theorem portTakesMark_port (x : Channel) : (s.portTakesMark ch c).ports.get x =
    if x = ch ∧ (s.ports.get ch).line = .up ∧ s.store.installed ≠ none then
      { s.ports.get ch with markSlot := some ⟨c, s.store.epochInForce c, s.groupState, s.output.state⟩ }
    else s.ports.get x := by
  by_cases h : (s.ports.get ch).line = .up ∧ s.store.installed ≠ none
  · rw [portTakesMark_of_builds s ch c h.1 h.2, placeMark_port]
    exact if_congr (and_iff_left h).symm rfl rfl
  · rw [portTakesMark_of_not s ch c h, if_neg fun hx => h hx.2]

theorem portTakesMark_standing (x : Channel) : (s.portTakesMark ch c).standing.get x =
    if x = ch ∧ (s.ports.get ch).line = .up ∧ s.store.installed ≠ none ∧ (s.ports.get ch).markSlot ≠ none then
      { s.standing.get ch with counters := { (s.standing.get ch).counters with
          marksSkipped := min ((s.standing.get ch).counters.marksSkipped + 1) 65535 } }
    else s.standing.get x := by
  by_cases h : (s.ports.get ch).line = .up ∧ s.store.installed ≠ none
  · obtain ⟨hup, hcfg⟩ := h
    rw [portTakesMark_of_builds s ch c hup hcfg, placeMark_standing]
    exact if_congr (and_congr_right' (by simp only [hup, ne_eq, hcfg, not_false_eq_true, true_and])) rfl rfl
  · rw [portTakesMark_of_not s ch c h, if_neg]
    rintro ⟨-, hup, hcfg, -⟩
    exact h ⟨hup, hcfg⟩

/-- A port that takes its mark as an event of its own: the event offers no notice (R24, R25). -/
theorem takeMark_port {o : MarkOffer} {rest : List MarkOffer} (h : s.timer.offersNext (.port ch) o rest)
    (hout : s.outbox = []) :
    s.takeMark (.port ch) = State.portTakesMark { s with timer := { s.timer with offers := rest } } ch o.cycle := by
  have kept := State.portTakesMark_keeps { s with timer := { s.timer with offers := rest } } ch o.cycle
  rw [takeMark_of_offer s (takeOffer_of_offersNext h)]
  obtain ⟨_, _, _, _, hport, _⟩ := h
  simp only [State.react, hport]
  exact State.settleNotices_of_empty _ (Eq.trans (kept .outbox (by decide)) hout)

end Sys2Proof.Proofs.OwnEvents

open Sys2Proof Sys2Proof.Machine Sys2Proof.Proofs.OwnEvents

/-- Settles O2: a step with no command is `idle`, and each kind of ready event has its own membership lemma. -/
theorem emptyQueueTakesOwnEventOrTick : Obligations.EmptyQueueTakesOwnEventOrTick := by
  unfold Obligations.EmptyQueueTakesOwnEventOrTick
  refine ⟨fun s hp => ⟨fun hnone => ?_, fun hready => ?_⟩, fun s e => ?_⟩
  · rw [step_of_no_command s hp, idle_of_none_ready s hnone]
    rfl
  · rw [step_of_no_command s hp]
    exact idle_of_ready s hready
  · simp only [State.readyEvents, List.mem_append, or_assoc, mem_readyClose, mem_readyChoices, mem_readyTakes,
      mem_readyMark, mem_readyDeadlines, mem_readyFoundings]

/-- Settles O6: the release is `State.resetEnd`, whose timer and next round number depend on whether a configuration is
installed. -/
theorem resetReleaseResumesNumbering : Obligations.ResetReleaseResumesNumbering := by
  unfold Obligations.ResetReleaseResumesNumbering
  intro s hlow _
  refine ⟨s.resetEnd, by simp only [exec, execResetRelease, hlow], rfl, fun cfg n hcfg hn => ?_, fun hnone => ?_, rfl,
    fun ch => PerChannel.get_build _ ch, fun b hb => ?_⟩
  · simp [State.resetEnd, State.restartedTimer, State.isEmpty, hcfg, hn]
  · simp [State.resetEnd, State.restartedTimer, State.isEmpty, hnone]
  · cases b <;> simp_all [State.sameBlock, State.resetEnd]

/-- Settles O11: the port's reaction offers no notice, so the event is `portTakesMark` with the mark taken off its way. -/
theorem markFillsMarkSlot : Obligations.MarkFillsMarkSlot := by
  unfold Obligations.MarkFillsMarkSlot
  intro s ch o rest hoffer hout
  have kept := State.portTakesMark_keeps { s with timer := { s.timer with offers := rest } } ch o.cycle
  have dropped : s.keepsAllBut { s with timer := { s.timer with offers := rest } } [.timer] := fun b hb => by
    cases b <;> simp_all [State.sameBlock]
  exact ⟨_, congrArg Host.Outcome.next (takeMark_port s ch hoffer hout), kept .timer (by decide),
    portTakesMark_port _ ch o.cycle, portTakesMark_standing _ ch o.cycle,
    (dropped.mono (by decide)).trans (kept.mono (by decide))⟩

end

section
/-! A sound part held in reset whose release is not sound: the counterexample to O59. `Sound` ties the History Buffer to the
next round number that the window holds (R168), and the release takes the retained next cycle in its place (R31, R81);
while RST_N is low no condition of `Sound` makes the two agree. -/

namespace Sys2Proof.Proofs.HeldInReset

open Sys2Proof.Machine

/-- A valid group record of the channels A, B and C. -/
def groupRecord : GroupRecord where
  members := ⟨true, true, true, false⟩
  itemQuorum := 2
  changeQuorum := 2
  period := 1000
  deadlineOffset := 800
  changeWindow := 8
  warnLevel := 20
  excludeLevel := 40
  probationRounds := 3
  holdoffCycles := 10
  safeAfter := 2
  recoverAfter := 2

/-- A valid schema of one item. -/
def itemSchema : List SchemaItem := [⟨.exact, .unsigned, 0, .hold, 0⟩]

/-- A configured part with RST_N low: it would number the next round 5, its one history record is of cycle 4, and the
retained next cycle is 9. -/
def heldPart : State :=
  { State.reset with
    resetPin := .low
    store := { Store.reset with
      installed := some ⟨groupRecord, itemSchema, 1, configurationDigest groupRecord itemSchema, 0⟩
      retainedNextCycle := some 9 }
    groupState := .stalled
    window := { Window.reset with nextRound := some 5 }
    output := { OutputPort.reset with state := .safe, link := .silent }
    history := [⟨4, 1, .deadline, .void, .safe, []⟩]
    ports := PerChannel.fill { Port.reset with transmitter := .silent }
    pending := [.resetRelease] }

theorem sound_heldPart : Sound heldPart where
  bounded := by decide
  store := by decide +kernel
  group := by decide
  output := by decide
  links := by decide
  members := by decide
  scores := by decide
  rounds := by decide
  queues := by decide
  sealedRounds := by decide
  history := by decide
  changes := by decide
  outbox := by decide

/-- The release is the step that the part takes, and its record of cycle 4 does not end just before round 9. -/
theorem step_heldPart : ∃ t, step heldPart = .next t ∧ t.historyRuns = false :=
  ⟨State.resetEnd { heldPart with pending := [] }, rfl, by decide⟩

end Sys2Proof.Proofs.HeldInReset

open Sys2Proof Sys2Proof.Machine Sys2Proof.Proofs.HeldInReset

/-- Refutes O59: `heldPart` is sound, and the release of RST_N (R31, R81) gives the window the retained next cycle 9, while
the History Buffer still holds the record of cycle 4 (R168). -/
theorem not_stepKeepsSound : ¬ Obligations.StepKeepsSound := by
  unfold Obligations.StepKeepsSound
  intro keeps
  obtain ⟨t, released, broken⟩ := step_heldPart
  have runs := (keeps heldPart t sound_heldPart released).history
  rw [broken] at runs
  exact Bool.false_ne_true runs

end

section
/-! Lemmas about judged frames on a HUNT line and on a DOWN one (R35, R150, R151). -/

namespace Sys2Proof.Proofs.HuntLine

open Sys2Proof.Machine

variable {s : State} {ch : Channel}

/-- A bad frame judged on a HUNT line. -/
theorem huntFrame_false (hpin : s.resetPin = .high) (hline : (s.ports.get ch).line = .hunt) :
    exec (.huntFrame ch false) s = .next ((s.reopenFrame ch).badInHunt ch) := by
  simp [exec, execHuntFrame, State.receiving, hpin, hline]

/-- A good frame judged on a HUNT line. -/
theorem huntFrame_true (hpin : s.resetPin = .high) (hline : (s.ports.get ch).line = .hunt) :
    exec (.huntFrame ch true) s = .next ((s.reopenFrame ch).goodInHunt ch) := by
  simp [exec, execHuntFrame, State.receiving, hpin, hline]

/-- On a HUNT line a good frame of any kind is a judged frame and nothing more. -/
theorem receiveGood_of_hunt (hpin : s.resetPin = .high) (hline : (s.ports.get ch).line = .hunt) (hout : s.outbox = [])
    (hand : State → State) : s.receiveGood ch hand = (s.reopenFrame ch).goodInHunt ch := by
  have outbox : ((s.reopenFrame ch).goodInHunt ch).outbox = [] :=
    Eq.trans (State.goodInHunt_keeps (s.reopenFrame ch) ch .outbox (by decide)) hout
  have judged : (s.reopenFrame ch).judgedGood ch hand = (s.reopenFrame ch).goodInHunt ch := by
    simp [State.judgedGood, hline]
  simp [State.receiveGood, State.receiving, hpin, hline, judged, State.settleNotices_of_empty _ outbox]

theorem receiveGood_of_down (hline : (s.ports.get ch).line = .down) (hand : State → State) :
    s.receiveGood ch hand = s := by
  simp [State.receiveGood, hline]

/-- Every good frame, whatever its kind, is received by `State.receiveGood`. -/
theorem frameCommand_cases (ch : Channel) (kind : Byte) (payload : List Byte) :
    ∃ hand : State → State, ∀ s, exec (frameCommand ch kind payload) s = .next (s.receiveGood ch hand) := by
  unfold frameCommand
  split
  · exact ⟨_, fun _ => rfl⟩
  split
  · exact ⟨_, fun _ => rfl⟩
  split
  · exact ⟨_, fun _ => rfl⟩
  split
  · exact ⟨_, fun _ => rfl⟩
  split
  · exact ⟨_, fun _ => rfl⟩
  split
  · exact ⟨_, fun _ => rfl⟩
  split
  · exact ⟨_, fun _ => rfl⟩
  · next announce leave proposal change concur retract read =>
    have unknown : takenKinds.contains kind = false := by
      simp [takenKinds, announce, leave, proposal, change, concur, retract, read]
    exact ⟨fun s => s.takeUnknown ch kind, fun s => by simp only [exec, execUnknownKind, unknown]; rfl⟩

theorem badInHunt_eq : (s.reopenFrame ch).badInHunt ch =
    { s with
      standing := s.standing.set ch { s.standing.get ch with
        counters := { (s.standing.get ch).counters with framesBad := min ((s.standing.get ch).counters.framesBad + 1) 65535 } }
      ports := s.ports.set ch { s.ports.get ch with receiver := .inFrame [] s.timer.tickCount, huntRun := 0 } } := by
  simp [State.badInHunt, State.reopenFrame, State.count, State.modStanding, State.modPort, Counters.bump, saturate16]

theorem goodInHunt_first (hrun : (s.ports.get ch).huntRun = 0) : (s.reopenFrame ch).goodInHunt ch =
    { s with
      standing := s.standing.set ch { s.standing.get ch with
        counters := { (s.standing.get ch).counters with framesGood := min ((s.standing.get ch).counters.framesGood + 1) 65535 } }
      ports := s.ports.set ch { s.ports.get ch with receiver := .inFrame [] s.timer.tickCount, huntRun := 1 } } := by
  simp [State.goodInHunt, State.reopenFrame, State.count, State.modStanding, State.modPort, Counters.bump, saturate16, hrun]

theorem goodInHunt_second (hrun : (s.ports.get ch).huntRun ≠ 0) (hst : (s.members.get ch).state = .detached) :
    (s.reopenFrame ch).goodInHunt ch =
    { s with
      standing := s.standing.set ch { s.standing.get ch with
        counters := { (s.standing.get ch).counters with framesGood := min ((s.standing.get ch).counters.framesGood + 1) 65535 } }
      ports := s.ports.set ch
        { s.ports.get ch with receiver := .inFrame [] s.timer.tickCount, line := .up, huntRun := 0, badRun := 0 }
      members := s.members.set ch { s.members.get ch with
        state := if (s.members.get ch).holdoff = 0 then .linked else .excluded } } := by
  simp [State.goodInHunt, State.linkUp, State.modMember, State.reopenFrame, State.count, State.modStanding, State.modPort,
    Counters.bump, saturate16, hrun, hst]

end Sys2Proof.Proofs.HuntLine

open Sys2Proof Sys2Proof.Machine Sys2Proof.Proofs.HuntLine

/-- Settles O21: the judged frame of a HUNT line is `badInHunt` or `goodInHunt`, and every other frame command comes down to
it (`frameCommand_cases`). -/
theorem huntRunBringsTheLineUp : Obligations.HuntRunBringsTheLineUp := by
  unfold Obligations.HuntRunBringsTheLineUp
  intro s ch
  refine ⟨fun hline good => ?notHunt, fun hpin (hline : (s.ports.get ch).line = .hunt) => ?hunt,
    fun (hline : (s.ports.get ch).line = .down) => ?down⟩
  case notHunt => simp [exec, execHuntFrame, hline]
  case hunt =>
    rw [huntFrame_false hpin hline, huntFrame_true hpin hline]
    refine ⟨congrArg _ badInHunt_eq, fun hrun => congrArg _ (goodInHunt_first hrun),
      fun hrun hst => congrArg _ (goodInHunt_second hrun hst), fun hout => ⟨?_, fun kind payload => ?_⟩⟩
    · have outbox : ((s.reopenFrame ch).badInHunt ch).outbox = [] := by rw [badInHunt_eq]; exact hout
      simp [exec, execBadFrame, State.receiving, State.judgedBad, hpin, hline, State.settleNotices_of_empty _ outbox]
    · obtain ⟨hand, hexec⟩ := frameCommand_cases ch kind payload
      rw [hexec, receiveGood_of_hunt hpin hline hout]
  case down =>
    refine ⟨by simp [exec, execBadFrame, hline], by simp [exec, execFrameAbort, hline], fun kind payload => ?_⟩
    obtain ⟨hand, hexec⟩ := frameCommand_cases ch kind payload
    rw [hexec, receiveGood_of_down hline]

end

section
/-! Lemmas that several statements need: the notices that an event broadcasts or sends, what a sound state gives, and what
follows a change of the members (R50, R51, R70, R157). -/

namespace Sys2Proof.Proofs.Offers

open Sys2Proof.Machine

/-! ## The outbox of an event -/

/-- Notices broadcast, as the outbox of an event holds them. -/
def toAll (l : List Notice) : List NoticeOffer := l.map fun n => ⟨0, none, n⟩

/-- Notices sent to one channel, as the outbox of an event holds them. -/
def toOne (ch : Channel) (l : List Notice) : List NoticeOffer := l.map fun n => ⟨0, some ch, n⟩

@[simp] theorem toAll_nil : toAll [] = [] := rfl

@[simp] theorem toAll_append (l m : List Notice) : toAll (l ++ m) = toAll l ++ toAll m := List.map_append ..

theorem toAll_singleton (n : Notice) : toAll [n] = [⟨0, none, n⟩] := rfl

theorem toOne_singleton (ch : Channel) (n : Notice) : toOne ch [n] = [⟨0, some ch, n⟩] := rfl

@[simp] theorem toOne_nil (ch : Channel) : toOne ch [] = [] := rfl

theorem noticesFor_append (k m : List NoticeOffer) (ch : Channel) (i : Nat) :
    noticesFor (k ++ m) ch i = noticesFor k ch i ++ noticesFor m ch i := by simp [noticesFor]

@[simp] theorem noticesFor_toAll (l : List Notice) (ch : Channel) : noticesFor (toAll l) ch 0 = l := by
  simp [noticesFor, toAll, List.filter_map, Function.comp_def]

@[simp] theorem noticesFor_toOne (l : List Notice) (ch o : Channel) :
    noticesFor (toOne o l) ch 0 = if ch = o then l else [] := by
  by_cases h : ch = o
  · simp [noticesFor, toOne, List.filter_map, Function.comp_def, h]
  · simp [noticesFor, toOne, List.filter_map, Function.comp_def, h, Ne.symm h]

theorem stage_of_mem_toAll {l : List Notice} {o : NoticeOffer} (h : o ∈ toAll l) : o.stage = 0 := by
  obtain ⟨n, -, rfl⟩ := List.mem_map.mp h
  rfl

theorem stage_of_mem_toOne {ch : Channel} {l : List Notice} {o : NoticeOffer} (h : o ∈ toOne ch l) : o.stage = 0 := by
  obtain ⟨n, -, rfl⟩ := List.mem_map.mp h
  rfl

/-- Every port is offered what an event broadcasts (R155, R157). -/
theorem settleNotices_toAll {s : State} {l : List Notice} (h : s.outbox = toAll l) (ch : Channel) :
    (s.ports.get ch).offeredAll (s.settleNotices.ports.get ch) l := by
  have offers := s.settleNotices_offeredAll ch fun o ho => stage_of_mem_toAll (l := l) (by rwa [← h])
  rwa [h, noticesFor_toAll] at offers

theorem offeredAll_perm {p q : Port} {l m : List Notice} (h : p.offeredAll q l) (hp : l.Perm m) : p.offeredAll q m := by
  obtain ⟨order, hperm, rfl⟩ := h
  exact ⟨order, hperm.trans hp, rfl⟩

end Sys2Proof.Proofs.Offers

namespace Sys2Proof.Proofs.SoundParts

open Sys2Proof.Machine Sys2Proof.Proofs.FoundingExpiry

/-! ## What a sound state gives -/

variable {s : State} (hs : Sound s)
include hs

/-- The group state is the one that the configuration and the VOTING set give (R51). -/
theorem groupState_eq : s.groupState = s.derivedGroupState := by
  have h := hs.group
  simp only [State.groupAgrees, Bool.and_eq_true, beq_iff_eq] at h
  exact h.1

/-- The completeness check finds nothing to seal (R70, R71, R73). -/
theorem checked_eq_self {r : Round} (hr : r ∈ s.window.rounds) : r.checked s.votingSet = r := by
  have h := hs.sealedRounds
  simp only [State.completeAreSealed, List.all_eq_true, Bool.not_eq_true'] at h
  rw [Round.checked_eq, h r hr]
  rfl

/-- In a group no founding expiry runs (R28). -/
theorem foundingExpiries_of_installed {cfg : Configuration} (hi : s.store.installed = some cfg) :
    s.timer.foundingExpiries = [] := by
  have h := hs.group
  simp only [State.groupAgrees, hi, Bool.and_eq_true, beq_iff_eq] at h
  exact h.2.2

/-- Without a group every channel is DETACHED or LINKED (R34). -/
theorem state_of_not_installed (hi : s.store.installed = none) (ch : Channel) :
    s.channelState ch = .detached ∨ s.channelState ch = .linked := by
  have h := hs.group
  simp only [State.groupAgrees, hi, Bool.and_eq_true, Channel.all_all, Bool.or_eq_true, beq_iff_eq] at h
  exact (h.2.2 ch).1

/-- A channel is DETACHED exactly while its line is not UP (R33). -/
theorem detached_iff (ch : Channel) : s.channelState ch = .detached ↔ (s.ports.get ch).line ≠ .up := by
  have h := hs.links
  simp only [State.linksAgree, Bool.and_eq_true, Channel.all_all, beq_iff_eq] at h
  have hch := (h.1 ch).1.1.1
  rw [Bool.eq_iff_iff, beq_iff_eq, bne_iff_ne] at hch
  exact hch

/-- Only a PROBATION channel has a probation run (R42, R45, R46). -/
theorem probationRun_eq_zero {ch : Channel} (h : s.channelState ch ≠ .probation) : (s.members.get ch).probationRun = 0 := by
  have hm := hs.members
  simp only [State.membersSound, Bool.and_eq_true, Channel.all_all, Bool.or_eq_true, beq_iff_eq] at hm
  exact (hm ch).2.resolve_right h

/-- A channel that is neither EXCLUDED nor DETACHED waits out no holdoff (R39, R47). -/
theorem holdoff_eq_zero {ch : Channel} (he : s.channelState ch ≠ .excluded) (hd : s.channelState ch ≠ .detached) :
    (s.members.get ch).holdoff = 0 := by
  have hm := hs.members
  simp only [State.membersSound, Bool.and_eq_true, Channel.all_all, Bool.or_eq_true, beq_iff_eq] at hm
  exact (((hm ch).1.2).resolve_right hd).resolve_right he

/-- A scored channel has not reached exclude_level (R46, R102). -/
theorem score_lt_excludeLevel {cfg : Configuration} (hi : s.store.installed = some cfg) {ch : Channel}
    (h : (s.channelState ch).isScored = true) : (s.standing.get ch).score < cfg.record.excludeLevel := by
  have hsc := hs.scores
  simp only [State.scoresSound, hi, Bool.and_eq_true, Channel.all_all, Bool.or_eq_true, Bool.not_eq_true',
    decide_eq_true_eq] at hsc
  exact (hsc ch).1.resolve_left (by simp [h])

/-- A channel in no voter state has an empty queue (R58). -/
theorem queue_eq_nil {ch : Channel} (h : (s.channelState ch).isVoter = false) : s.window.queues.get ch = [] := by
  have hq := hs.queues
  simp only [State.queuesSound, Bool.and_eq_true, Channel.all_all, Bool.or_eq_true, beq_iff_eq] at hq
  exact ((hq.1 ch).1.1).resolve_right (by simp [h])

/-- The arrival sets show the queues (R61). -/
theorem arrival_eq {r : Round} (hr : r ∈ s.window.rounds) : r.arrival = s.arrivalFor r.cycle := by
  have hq := hs.queues
  simp only [State.queuesSound, Bool.and_eq_true, List.all_eq_true, beq_iff_eq] at hq
  exact hq.2 r hr

/-- A channel in no voter state is in no arrival set (R61). -/
theorem arrival_get_of_not_voter {ch : Channel} (h : (s.channelState ch).isVoter = false) {r : Round}
    (hr : r ∈ s.window.rounds) : r.arrival.get ch = false := by
  rw [arrival_eq hs hr, State.arrivalFor, PerChannel.get_build, queue_eq_nil hs h]
  rfl

theorem changesVoided_le : s.part.changesVoided ≤ 65535 := by
  have h := hs.bounded
  simp only [State.bounded, PartCounters.bounded, Bool.and_eq_true, decide_eq_true_eq] at h
  obtain ⟨⟨⟨⟨⟨⟨-, -, h⟩, -⟩, -⟩, -⟩, -⟩, -⟩ := h
  exact h

/-- An entry is a FOUND entry exactly while the group is EMPTY (R129). -/
theorem isFound_eq {e : ChangeEntry} (he : e ∈ s.changes.entries) : e.isFound = s.store.installed.isNone := by
  obtain ⟨entries, -, -⟩ := changes_parts hs
  have h := entries e he
  simp only [State.entrySound, Bool.and_eq_true, beq_iff_eq] at h
  exact h.1.1.2

end Sys2Proof.Proofs.SoundParts

namespace Sys2Proof.Proofs.MembersSettle

open Sys2Proof.Machine Sys2Proof.Proofs.Offers Sys2Proof.Proofs.SoundParts

/-! ## After a change of the members (R50, R51) -/

theorem votingSet_get (s : State) (ch : Channel) : s.votingSet.get ch = (s.channelState ch == .voting) :=
  PerChannel.get_build _ _

/-- The VOTING set is read from the members alone. -/
theorem votingSet_congr {s t : State} (h : ∀ ch, t.channelState ch = .voting ↔ s.channelState ch = .voting) :
    t.votingSet = s.votingSet := PerChannel.eq_of_get fun ch => by
  rw [votingSet_get, votingSet_get, Bool.eq_iff_iff, beq_iff_eq, beq_iff_eq]
  exact h ch

/-- The group state is read from the installed configuration and the VOTING set. -/
theorem derivedGroupState_congr {s t : State} (hi : t.store.installed = s.store.installed)
    (hv : t.votingSet = s.votingSet) : t.derivedGroupState = s.derivedGroupState := by
  simp only [State.derivedGroupState, hi, hv]

/-- GROUP_STATE where the derived group state is not the one that stands (R51). -/
def groupChange (s : State) : List Notice :=
  if s.derivedGroupState = s.groupState then [] else [.groupState s.derivedGroupState]

theorem recomputeGroup_eq (s : State) : s.recomputeGroup =
    { s with groupState := s.derivedGroupState, outbox := s.outbox ++ toAll (groupChange s) } := by
  unfold State.recomputeGroup groupChange
  by_cases h : s.derivedGroupState = s.groupState
  · rw [if_pos h, if_pos h, h]
    simp
  · rw [if_neg h, if_neg h]
    rfl

/-- All that follows a change of the members: the rounds checked where the VOTING set is a new one, and the group state. -/
theorem settleMembership_eq (before s : State) : State.settleMembership before s =
    { s with
      window := { s.window with
        rounds :=
          if s.votingSet = before.votingSet then s.window.rounds else s.window.rounds.map (Round.checked s.votingSet) }
      groupState := s.derivedGroupState
      outbox := s.outbox ++ toAll (groupChange s) } := by
  have checked : State.checkIfVotingChanged before s = { s with
      window := { s.window with
        rounds := if s.votingSet = before.votingSet then s.window.rounds
          else s.window.rounds.map (Round.checked s.votingSet) } } := by
    unfold State.checkIfVotingChanged
    split
    · rfl
    · have rounds := s.checkComplete_rounds fun _ => true
      simp only [if_true] at rounds
      rw [← rounds]
      rfl
  rw [State.settleMembership, recomputeGroup_eq, checked]
  rfl

/-- The rounds after the check, where a VOTING set that stays had left nothing to seal. -/
theorem settleMembership_rounds {before s : State}
    (h : s.votingSet = before.votingSet → ∀ r ∈ s.window.rounds, r.checked s.votingSet = r) :
    (State.settleMembership before s).window.rounds = s.window.rounds.map (Round.checked s.votingSet) := by
  rw [settleMembership_eq]
  change (if s.votingSet = before.votingSet then _ else _) = _
  split
  · next hv => exact ((List.map_congr_left (h hv)).trans (List.map_id' _)).symm
  · rfl

end Sys2Proof.Proofs.MembersSettle
end

section
/-! Lemmas about a departure as the Change Table takes it (R50, R141). -/

namespace Sys2Proof.Proofs.Departures

open Sys2Proof.Machine Sys2Proof.Proofs.Offers

variable (ch : Channel)

/-! ## What a departure makes of a list of entries -/

/-- The departure of channel `ch` voids this entry (R141). -/
def voids (e : ChangeEntry) : Bool := e.state == .pending && e.proposer == ch

/-- The entries that a departure leaves, as `ChangeTable.without` has them. -/
def staying (l : List ChangeEntry) : List ChangeEntry :=
  (l.filter fun e => !(voids ch e)).map fun e =>
    if e.state = .pending then { e with concurrence := e.concurrence.set ch false } else e

/-- What is broadcast of these entries, as `ChangeTable.departureNotices` has it. -/
def noticesOf (l : List ChangeEntry) : List Notice := ChangeTable.departureNotices ⟨l, 0⟩ ch

theorem without_eq (c : ChangeTable) : c.without ch = { c with entries := staying ch c.entries } := rfl

theorem departureNotices_eq (c : ChangeTable) : c.departureNotices ch = noticesOf ch c.entries := rfl

theorem staying_cons (e : ChangeEntry) (l : List ChangeEntry) : staying ch (e :: l) = staying ch [e] ++ staying ch l := by
  cases h : voids ch e <;> simp [staying, h]

theorem noticesOf_cons (e : ChangeEntry) (l : List ChangeEntry) :
    noticesOf ch (e :: l) = noticesOf ch [e] ++ noticesOf ch l := by simp [noticesOf, ChangeTable.departureNotices]

/-- No ticket is there twice where none was before. -/
theorem staying_tickets_sublist (l : List ChangeEntry) :
    ((staying ch l).map (·.ticket)).Sublist (l.map (·.ticket)) := by
  have kept : (staying ch l).map (·.ticket) = (l.filter fun e => !(voids ch e)).map (·.ticket) := by
    simp only [staying, List.map_map]
    refine List.map_congr_left fun e _ => ?_
    by_cases h : e.state = .pending <;> simp [h]
  rw [kept]
  exact List.filter_sublist.map _

theorem staying_singleton_of_voids {e : ChangeEntry} (h : voids ch e = true) : staying ch [e] = [] := by
  simp [staying, h]

theorem staying_singleton_of_not_pending {e : ChangeEntry} (h : e.state ≠ .pending) : staying ch [e] = [e] := by
  simp [staying, voids, h]

theorem staying_singleton_of_pending {e : ChangeEntry} (h : e.state = .pending) (hp : e.proposer ≠ ch) :
    staying ch [e] = [{ e with concurrence := e.concurrence.set ch false }] := by
  simp [staying, voids, h, hp]

theorem mem_staying_of_not_voids {e : ChangeEntry} {l : List ChangeEntry} (he : e ∈ l) (h : voids ch e = false) :
    ∃ x ∈ staying ch l, x.ticket = e.ticket := by
  refine ⟨_, List.mem_map_of_mem (List.mem_filter.mpr ⟨he, by simp [h]⟩), ?_⟩
  by_cases hst : e.state = .pending <;> simp [hst]

theorem exists_of_mem_staying {x : ChangeEntry} {l : List ChangeEntry} (hx : x ∈ staying ch l) :
    ∃ e ∈ l, voids ch e = false ∧ x.ticket = e.ticket := by
  obtain ⟨e, he, rfl⟩ := List.mem_map.mp hx
  obtain ⟨he, hv⟩ := List.mem_filter.mp he
  refine ⟨e, he, by simpa using hv, ?_⟩
  by_cases hst : e.state = .pending <;> simp [hst]

/-- The entries that a departure voids are those that are missing afterwards. -/
theorem voids_length (l : List ChangeEntry) :
    (l.filter (voids ch)).length = l.length - (staying ch l).length := by
  have split := List.length_eq_length_filter_add (l := l) (voids ch)
  simp only [staying, List.length_map]
  omega

/-! ## The departure, carried out -/

/-- The state after a departure has reached the entries `l` of the table, which then holds `entries`. -/
def afterDeparture (s : State) (l entries : List ChangeEntry) : State :=
  { s with
    changes := { s.changes with entries := entries }
    timer := { s.timer with
      foundingExpiries := s.timer.foundingExpiries.filter fun x => !(l.any fun e => voids ch e && e.ticket == x.ticket) }
    part := { s.part with changesVoided := saturate16^[(l.filter (voids ch)).length] s.part.changesVoided }
    outbox := s.outbox ++ toAll (noticesOf ch l) }

theorem afterDeparture_trans (s : State) (e : ChangeEntry) (l entries entries' : List ChangeEntry) :
    afterDeparture ch (afterDeparture ch s [e] entries) l entries' = afterDeparture ch s (e :: l) entries' := by
  have part : saturate16^[(l.filter (voids ch)).length] (saturate16^[([e].filter (voids ch)).length] s.part.changesVoided) =
      saturate16^[((e :: l).filter (voids ch)).length] s.part.changesVoided := by
    rw [← Function.iterate_add_apply]
    congr 1
    cases h : voids ch e <;> simp [h]
  simp only [afterDeparture, part, List.filter_filter, List.any_cons, List.any_nil, Bool.or_false, noticesOf_cons ch e l,
    toAll_append, List.append_assoc, Bool.not_or, Bool.and_comm]

theorem filter_ticket_append {pre l : List ChangeEntry} {e : ChangeEntry}
    (h : ((pre ++ e :: l).map (·.ticket)).Nodup) : (pre ++ e :: l).filter (·.ticket != e.ticket) = pre ++ l := by
  rw [List.map_append, List.map_cons, List.nodup_middle, List.nodup_cons, ← List.map_append, List.mem_map] at h
  have other : ∀ x ∈ pre ++ l, (x.ticket != e.ticket) = true := fun x hx => by
    simpa using fun heq => h.1 ⟨x, hx, heq⟩
  have hall := List.filter_eq_self.mpr other
  simpa [List.filter_append] using hall

theorem map_ticket_append {pre l : List ChangeEntry} {e : ChangeEntry} (f : ChangeEntry → ChangeEntry)
    (h : ((pre ++ e :: l).map (·.ticket)).Nodup) :
    ((pre ++ e :: l).map fun x => if x.ticket = e.ticket then f x else x) = pre ++ f e :: l := by
  rw [List.map_append, List.map_cons, List.nodup_middle, List.nodup_cons, ← List.map_append, List.mem_map] at h
  have other : ∀ x ∈ pre ++ l, (if x.ticket = e.ticket then f x else x) = x := fun x hx =>
    if_neg fun heq => h.1 ⟨x, hx, heq⟩
  have hall : ((pre ++ l).map fun x => if x.ticket = e.ticket then f x else x) = pre ++ l :=
    (List.map_congr_left other).trans (List.map_id' _)
  rw [List.map_append] at hall
  obtain ⟨hpre, hl⟩ := List.append_inj hall (by simp)
  rw [List.map_append, List.map_cons, hpre, hl, if_pos rfl]

theorem afterDeparture_self (s : State) {l : List ChangeEntry} (hv : ∀ e ∈ l, voids ch e = false)
    (hn : noticesOf ch l = []) : afterDeparture ch s l s.changes.entries = s := by
  have none : l.filter (voids ch) = [] := List.filter_eq_nil_iff.mpr fun e he => by simp [hv e he]
  have any : ∀ x : FoundingExpiry, (l.any fun e => voids ch e && e.ticket == x.ticket) = false := fun x =>
    List.any_eq_false.mpr fun e he => by simp [hv e he]
  simp only [afterDeparture, none, any, hn, toAll_nil, List.append_nil, Bool.not_false, List.filter_true]
  rfl

/-- What a departure does to one PENDING entry, in the words of R141. -/
theorem departFrom_eq {s : State} {pre l : List ChangeEntry} {e : ChangeEntry} (hs : s.changes.entries = pre ++ e :: l)
    (hn : (s.changes.entries.map (·.ticket)).Nodup) (he : e.state = .pending) :
    State.departFrom ch s e = afterDeparture ch s [e] (pre ++ (staying ch [e] ++ l)) := by
  have hn' := hn
  rw [hs] at hn'
  unfold State.departFrom
  by_cases hp : e.proposer = ch
  · have hv : voids ch e = true := by simp [voids, he, hp]
    have entries : s.changes.entries.filter (·.ticket != e.ticket) = pre ++ l := by rw [hs, filter_ticket_append hn']
    have others : (fun x : FoundingExpiry => x.ticket != e.ticket) = fun x => !(e.ticket == x.ticket) := by
      funext x
      rw [bne, Bool.beq_comm]
    rw [if_pos hp, staying_singleton_of_voids ch hv]
    simp only [afterDeparture, State.voidEntry, State.removeEntry, State.dropFoundingExpiry, State.broadcastAt,
      State.countVoid, entries, others, hv, noticesOf, ChangeTable.departureNotices, he, hp, toAll_singleton,
      List.any_cons, List.any_nil, List.flatMap_cons, List.flatMap_nil, List.nil_append, List.append_nil, Bool.or_false,
      Bool.true_and, List.filter_cons_of_pos, List.filter_nil, List.length_singleton, Function.iterate_one, ne_eq,
      not_true_eq_false, if_false, if_true]
  · have hv : voids ch e = false := by simp [voids, hp]
    rw [if_neg hp, staying_singleton_of_pending ch he hp]
    cases hc : e.concurrence.get ch with
    | true =>
      simp [afterDeparture, State.modEntry, State.broadcast, State.broadcastAt, hs,
        map_ticket_append (fun e => { e with concurrence := e.concurrence.set ch false }) hn', hv, noticesOf,
        ChangeTable.departureNotices, he, hp, hc, toAll_singleton, ChannelSet.card_eq_length, PerChannel.get_set]
    | false =>
      have same : e.concurrence.set ch false = e.concurrence := hc ▸ PerChannel.set_get e.concurrence ch
      have entries : pre ++ ([{ e with concurrence := e.concurrence.set ch false }] ++ l) = s.changes.entries := by
        rw [same, hs]
        rfl
      rw [entries, if_neg Bool.false_ne_true, afterDeparture_self ch s (by simpa using hv)]
      simp [noticesOf, ChangeTable.departureNotices, he, hp, hc]

/-- A departure that reaches every PENDING entry, one after another. -/
theorem foldl_departFrom (reached : ChangeEntry → Bool) (l : List ChangeEntry) :
    ∀ (s : State) (pre : List ChangeEntry), s.changes.entries = pre ++ l → (s.changes.entries.map (·.ticket)).Nodup →
      (∀ e ∈ l, e.isPending = true → reached e = true) →
      (l.filter fun e => e.isPending && reached e).foldl (State.departFrom ch) s =
        afterDeparture ch s l (pre ++ staying ch l) := by
  induction l with
  | nil =>
    intro s pre hs _ _
    rw [show pre ++ staying ch [] = s.changes.entries from hs.symm]
    exact (afterDeparture_self ch s (by simp) rfl).symm
  | cons e l ih =>
    intro s pre hs hn hreach
    have hl : ∀ x ∈ l, x.isPending = true → reached x = true := fun x hx => hreach x (List.mem_cons_of_mem e hx)
    have first : (if (e.isPending && reached e) = true then State.departFrom ch s e else s) =
        afterDeparture ch s [e] (pre ++ (staying ch [e] ++ l)) := by
      by_cases he : e.state = .pending
      · have hp : e.isPending = true := by simp [ChangeEntry.isPending, he]
        rw [hp, hreach e (List.mem_cons_self ..) hp]
        exact departFrom_eq ch hs hn he
      · have hv : voids ch e = false := by simp [voids, he]
        have entries : pre ++ (staying ch [e] ++ l) = s.changes.entries := by
          rw [staying_singleton_of_not_pending ch he, hs]
          rfl
        rw [entries, afterDeparture_self ch s (by simpa using hv) (by simp [noticesOf, ChangeTable.departureNotices, he])]
        simp [ChangeEntry.isPending, he]
    have tickets : ((pre ++ (staying ch [e] ++ l)).map (·.ticket)).Nodup := by
      refine hn.sublist ?_
      rw [hs, List.map_append, List.map_append, List.map_append]
      exact (List.Sublist.refl _).append ((staying_tickets_sublist ch [e]).append (.refl _))
    have rest := ih (afterDeparture ch s [e] (pre ++ (staying ch [e] ++ l))) (pre ++ staying ch [e])
      (List.append_assoc ..).symm tickets hl
    rw [staying_cons, ← List.append_assoc, ← afterDeparture_trans, ← rest, ← first]
    cases h : e.isPending && reached e <;> simp [h]

/-- A departure that reaches every PENDING entry of the table (R141). -/
theorem depart_eq {s : State} {reached : ChangeEntry → Bool} (hn : (s.changes.entries.map (·.ticket)).Nodup)
    (hreach : ∀ e ∈ s.changes.entries, e.isPending = true → reached e = true) :
    s.depart ch reached = afterDeparture ch s s.changes.entries (staying ch s.changes.entries) :=
  foldl_departFrom ch reached s.changes.entries s [] rfl hn hreach

/-! ## The counts and the founding expiries of a sound part -/

theorem saturate16_iterate (n : Nat) {k : Nat} (hk : k ≤ 65535) : saturate16^[n] k = min (k + n) 65535 := by
  induction n with
  | zero => exact (min_eq_left hk).symm
  | succ n ih =>
    rw [Function.iterate_succ_apply', ih, saturate16]
    omega

/-- The founding expiries that no voided entry takes with it are those whose entries stay (R28). -/
theorem foundingExpiries_staying {s : State} (hs : Sound s) {x : FoundingExpiry} (hx : x ∈ s.timer.foundingExpiries) :
    (!(s.changes.entries.any fun e => voids ch e && e.ticket == x.ticket)) =
      (staying ch s.changes.entries).any fun e => e.ticket == x.ticket := by
  obtain ⟨-, tickets, -⟩ := FoundingExpiry.changes_parts hs
  obtain ⟨e, he, hex⟩ := List.any_eq_true.mp (FoundingExpiry.found_entry_of_expiry hs hx)
  have hticket : e.ticket = x.ticket := by
    simp only [Bool.and_eq_true, beq_iff_eq] at hex
    exact hex.1.1
  have only : ∀ o ∈ s.changes.entries, o.ticket = x.ticket → o = e := fun o ho h =>
    List.inj_on_of_nodup_map tickets ho he (h.trans hticket.symm)
  cases hv : voids ch e with
  | true =>
    have gone : ((staying ch s.changes.entries).any fun o => o.ticket == x.ticket) = false := by
      refine List.any_eq_false.mpr fun o ho heq => ?_
      obtain ⟨o', ho', hv', ht⟩ := exists_of_mem_staying ch ho
      rw [only o' ho' (ht.symm.trans (by simpa using heq)), hv] at hv'
      exact Bool.noConfusion hv'
    rw [gone, List.any_eq_true.mpr ⟨e, he, by simp [hv, hticket]⟩]
    rfl
  | false =>
    obtain ⟨o, ho, ht⟩ := mem_staying_of_not_voids ch he hv
    rw [List.any_eq_true.mpr ⟨o, ho, by simp [ht, hticket]⟩, List.any_eq_false.mpr]
    · rfl
    · intro o ho h
      simp only [Bool.and_eq_true, beq_iff_eq] at h
      rw [only o ho h.2, hv] at h
      exact Bool.noConfusion h.1

/-- What a departure leaves in the Change Table, the counter and the founding expiries (R28, R108, R141). -/
theorem changesNow_afterDeparture {s u : State} (hs : Sound s) (hc : u.changes = s.changes) (hp : u.part = s.part)
    (ht : u.timer = s.timer) :
    s.changesNow (afterDeparture ch u s.changes.entries (staying ch s.changes.entries)) (s.changes.without ch) := by
  refine ⟨?_, ?_, ?_⟩
  · simp only [afterDeparture, hc]
    rfl
  · simp only [afterDeparture, hp, saturate16_iterate _ (SoundParts.changesVoided_le hs), voids_length]
    rfl
  · simp only [afterDeparture, ht, without_eq]
    rw [List.filter_congr fun x hx => foundingExpiries_staying ch hs hx]

/-- Where no departure reaches the Change Table, nothing of it changes. -/
theorem changesNow_of_same {s u : State} (hs : Sound s) (hc : u.changes = s.changes) (hp : u.part = s.part)
    (ht : u.timer = s.timer) : s.changesNow u s.changes := by
  have all : ∀ x ∈ s.timer.foundingExpiries, (s.changes.entries.any fun e => e.ticket == x.ticket) = true := fun x hx => by
    obtain ⟨e, he, hex⟩ := List.any_eq_true.mp (FoundingExpiry.found_entry_of_expiry hs hx)
    simp only [Bool.and_eq_true] at hex
    exact List.any_eq_true.mpr ⟨e, he, hex.1.1⟩
  refine ⟨hc, ?_, ?_⟩
  · rw [hp, Nat.sub_self]
    exact (min_eq_left (SoundParts.changesVoided_le hs)).symm
  · rw [ht, List.filter_eq_self.mpr all]

end Sys2Proof.Proofs.Departures
end

section
/-! Lemmas about a channel that leaves its state: its queue, the arrival sets, the sealing and the group state that follow, and
its exclusion (R46, R50, R51, R80, R101, R102). -/

namespace Sys2Proof.Proofs.Leaving

open Sys2Proof.Machine Sys2Proof.Proofs.Offers Sys2Proof.Proofs.SoundParts Sys2Proof.Proofs.MembersSettle
  Sys2Proof.Proofs.Departures

/-! ## Rounds that a channel leaves (R80) -/

/-- A round with channel `ch` out of its arrival set. -/
def cleared (ch : Channel) (r : Round) : Round := { r with arrival := r.arrival.set ch false }

/-- A channel that is not VOTING makes no difference to completeness (R70). -/
theorem isComplete_cleared {ch : Channel} {v : ChannelSet} (hv : v.get ch = false) (r : Round) :
    (cleared ch r).isComplete v = r.isComplete v := by
  have within : v.within (cleared ch r).arrival = v.within r.arrival := by
    rw [Bool.eq_iff_iff, ChannelSet.within_iff, ChannelSet.within_iff]
    refine forall_congr' fun x => imp_congr_right fun hx => ?_
    have hne : x ≠ ch := by
      rintro rfl
      rw [hv] at hx
      exact Bool.false_ne_true hx
    rw [cleared, PerChannel.get_set_other _ hne]
  simp only [Round.isComplete, within]

theorem checked_cleared {ch : Channel} {v : ChannelSet} (hv : v.get ch = false) {r : Round} (h : r.checked v = r) :
    (cleared ch r).checked v = cleared ch r := by
  rw [Round.checked_eq, isComplete_cleared hv]
  rw [Round.checked_eq] at h
  split
  · next met =>
    rw [show (cleared ch r).isOpen = r.isOpen from rfl] at met
    rw [if_pos met] at h
    have isOpen : r.isOpen = true := by simp only [Bool.and_eq_true] at met; exact met.1
    rw [← h] at isOpen
    exact absurd isOpen Bool.false_ne_true
  · rfl

section OneChannel

variable {s u before : State} {ch : Channel}

theorem cleared_of_not_voter (hs : Sound s) (hv : (s.channelState ch).isVoter = false) {r : Round}
    (hr : r ∈ s.window.rounds) : cleared ch r = r := by
  have same : r.arrival.set ch false = r.arrival := by
    conv_lhs => rw [← arrival_get_of_not_voter hs hv hr]
    exact PerChannel.set_get _ _
  rw [cleared, same]

/-! ## The hand-offs of a channel that leaves the voter states (R50) -/

theorem reachesChanges_of_voter (hv : (s.channelState ch).isVoter = true) :
    s.reachesChanges ch = decide (s.channelState ch = .voting) := by
  rw [State.reachesChanges]
  cases h : s.channelState ch <;> simp_all [ChannelState.isVoter]

/-- In a group every PENDING entry is of a kind that a departure from VOTING reaches (R129, R141). -/
theorem installed_of_voter (hs : Sound s) (hv : (s.channelState ch).isVoter = true) :
    ∃ cfg, s.store.installed = some cfg := by
  cases hi : s.store.installed with
  | some cfg => exact ⟨cfg, rfl⟩
  | none => rcases state_of_not_installed hs hi ch with h | h <;> rw [h] at hv <;> cases hv

/-- The hand-offs of a channel that leaves a voter state, where a departure from VOTING reaches every PENDING entry. -/
theorem leaveVoters_eq_of {was : ChannelState} (hn : (u.changes.entries.map (·.ticket)).Nodup)
    (hf : ∀ e ∈ u.changes.entries, e.isFound = false) (hv : was.isVoter = true) :
    u.leaveVoters ch was =
      if was = .voting then afterDeparture ch (u.emptyQueue ch) u.changes.entries (staying ch u.changes.entries)
      else u.emptyQueue ch := by
  have depart := depart_eq (s := u.emptyQueue ch) ch (reached := fun e => !e.isFound) hn fun e he _ => by rw [hf e he]; rfl
  simp only [State.leaveVoters, hv, if_true, depart]
  rfl

theorem not_isFound_of_installed (hs : Sound s) {cfg : Configuration} (hi : s.store.installed = some cfg) :
    ∀ e ∈ s.changes.entries, e.isFound = false := fun e he => by
  rw [isFound_eq hs he, hi]
  rfl

theorem leaveVoters_eq (hs : Sound s) (hv : (s.channelState ch).isVoter = true) (hc : u.changes = s.changes) :
    u.leaveVoters ch (s.channelState ch) =
      if s.channelState ch = .voting then
        afterDeparture ch (u.emptyQueue ch) s.changes.entries (staying ch s.changes.entries)
      else u.emptyQueue ch := by
  obtain ⟨cfg, hi⟩ := installed_of_voter hs hv
  obtain ⟨-, tickets, -⟩ := FoundingExpiry.changes_parts hs
  rw [leaveVoters_eq_of (by rwa [hc]) (by rw [hc]; exact not_isFound_of_installed hs hi) hv, hc]

/-- What the hand-offs of a channel that leaves the voter states give. -/
theorem leaveVoters_spec (hs : Sound s) (hv : (s.channelState ch).isVoter = true) (hc : u.changes = s.changes)
    (hp : u.part = s.part) (ht : u.timer = s.timer) :
    (u.leaveVoters ch (s.channelState ch)).window = (u.emptyQueue ch).window
      ∧ s.changesNow (u.leaveVoters ch (s.channelState ch))
          (if s.reachesChanges ch then s.changes.without ch else s.changes)
      ∧ (u.leaveVoters ch (s.channelState ch)).part =
          { s.part with changesVoided := (u.leaveVoters ch (s.channelState ch)).part.changesVoided }
      ∧ (u.leaveVoters ch (s.channelState ch)).outbox =
          u.outbox ++ toAll (if s.reachesChanges ch then s.changes.departureNotices ch else []) := by
  rw [leaveVoters_eq hs hv hc, reachesChanges_of_voter hv]
  by_cases h : s.channelState ch = .voting
  · simp only [h, decide_true, if_true]
    exact ⟨rfl, changesNow_afterDeparture ch hs hc hp ht, by simp [afterDeparture, hp], rfl⟩
  · simp only [h, decide_false, if_false, Bool.false_eq_true]
    exact ⟨trivial, changesNow_of_same hs hc hp ht, by simp [hp], by simp⟩

/-- The blocks that a channel's departure is read from: those of a state that differs from `s` in the members, the standing,
the ports and the outbox alone. -/
theorem leave_settled (hs : Sound s) (hk : s.keepsAllBut u [.members, .standing, .ports, .outbox])
    (hv : (s.channelState ch).isVoter = true) (hst : u.channelState ch ≠ .voting)
    (hb : before.votingSet = s.votingSet) :
    s.leftBy (State.settleMembership before (u.leaveVoters ch (s.channelState ch))) ch
      ∧ (State.settleMembership before (u.leaveVoters ch (s.channelState ch))).outbox =
          u.outbox ++ toAll
            (s.leftNotices (State.settleMembership before (u.leaveVoters ch (s.channelState ch))) ch) := by
  have hwindow : u.window = s.window := hk .window (by decide)
  have hgroup : u.groupState = s.groupState := hk .groupState (by decide)
  obtain ⟨window, changes, part, outbox⟩ := leaveVoters_spec (u := u) hs hv (hk .changes (by decide))
    (hk .part (by decide)) (hk .timer (by decide))
  have kept := u.leaveVoters_keeps ch (s.channelState ch)
  generalize u.leaveVoters ch (s.channelState ch) = left at window changes part outbox kept
  have members : left.members = u.members := kept .members (by decide)
  have group : left.groupState = s.groupState := Eq.trans (kept .groupState (by decide)) hgroup
  have outOfVoting : left.votingSet.get ch = false := by
    rw [votingSet_get, State.channelState, members]
    exact beq_eq_false_iff_ne.mpr hst
  have rounds : left.window.rounds = s.window.rounds.map (cleared ch) := by
    rw [window, State.emptyQueue_window, hwindow]
    rfl
  have settled : (State.settleMembership before left).window.rounds =
      (s.window.rounds.map (cleared ch)).map (Round.checked left.votingSet) := by
    rw [← rounds]
    refine settleMembership_rounds fun hvoting r hr => ?_
    rw [rounds] at hr
    obtain ⟨x, hx, rfl⟩ := List.mem_map.mp hr
    refine checked_cleared outOfVoting ?_
    rw [hvoting, hb]
    exact checked_eq_self hs hx
  have queues : (State.settleMembership before left).window.queues = s.window.queues.set ch [] := by
    rw [settleMembership_eq]
    change left.window.queues = _
    rw [window, State.emptyQueue_window, hwindow]
  have next : (State.settleMembership before left).window.nextRound = s.window.nextRound := by
    rw [settleMembership_eq]
    change left.window.nextRound = _
    rw [window, State.emptyQueue_window, hwindow]
  rw [List.map_map] at settled
  refine ⟨⟨fun x => ?_, ?_, next, ?_, ?_, ?_⟩, ?_⟩
  · rw [queues, PerChannel.get_set]
  · rw [settled, settleMembership_eq]
    rfl
  · rw [settleMembership_eq]
    rfl
  · rw [settleMembership_eq]
    exact changes
  · rw [settleMembership_eq]
    exact part
  · rw [settleMembership_eq]
    simp only [outbox, State.leftNotices, toAll_append, List.append_assoc]
    rw [groupChange, group]
    rfl

/-- A channel in no voter state leaves: no queue, no arrival set and no voter changes. -/
theorem leftBy_of_not_voter (hs : Sound s) (hv : (s.channelState ch).isVoter = false)
    (hstore : u.store = s.store) (hwindow : u.window = s.window) (hgroup : u.groupState = s.groupState)
    (hvoting : u.votingSet = s.votingSet)
    (hchanges : s.changesNow u (if s.reachesChanges ch then s.changes.without ch else s.changes))
    (hpart : u.part = { s.part with changesVoided := u.part.changesVoided }) : s.leftBy u ch := by
  refine ⟨fun x => ?_, ?_, by rw [hwindow], ?_, hchanges, hpart⟩
  · rw [hwindow]
    split
    · next h => rw [h, queue_eq_nil hs hv]
    · rfl
  · rw [hwindow, hvoting]
    refine ((List.map_congr_left fun r hr => ?_).trans (List.map_id' _)).symm
    have same := cleared_of_not_voter hs hv hr
    exact (congrArg (Round.checked s.votingSet) same).trans (checked_eq_self hs hr)
  · rw [hgroup, derivedGroupState_congr (congrArg Store.installed hstore) hvoting, groupState_eq hs]

/-- What follows from a channel's leaving is read from these parts of the state alone. -/
theorem leftBy_congr {t t' : State} (h : s.leftBy t ch) (hwindow : t'.window = t.window)
    (hgroup : t'.groupState = t.groupState) (hstore : t'.store = t.store) (hvoting : t'.votingSet = t.votingSet)
    (hchanges : t'.changes = t.changes) (hpart : t'.part = t.part) (htimer : t'.timer = t.timer) : s.leftBy t' ch := by
  obtain ⟨queues, rounds, next, group, ⟨entries, voided, timer⟩, part⟩ := h
  refine ⟨?_, ?_, ?_, ?_, ⟨?_, ?_, ?_⟩, ?_⟩
  · rwa [hwindow]
  · rwa [hwindow, hvoting]
  · rwa [hwindow]
  · rwa [hgroup, derivedGroupState_congr (congrArg Store.installed hstore) hvoting]
  · rwa [hchanges]
  · rwa [hpart]
  · rwa [htimer]
  · rwa [hpart]

theorem leftBy_settleNotices {t : State} (h : s.leftBy t ch) : s.leftBy t.settleNotices ch := by
  have kept := t.settleNotices_keeps
  exact leftBy_congr h (kept .window (by decide)) (kept .groupState (by decide)) (kept .store (by decide))
    (votingSet_congr fun x => by
      rw [State.channelState, State.channelState, show t.settleNotices.members = t.members from kept .members (by decide)])
    (kept .changes (by decide)) (kept .part (by decide)) (kept .timer (by decide))

theorem leftNotices_congr {t t' : State} (h : t'.groupState = t.groupState) :
    s.leftNotices t' ch = s.leftNotices t ch := by rw [State.leftNotices, State.leftNotices, State.groupNotice, h]; rfl

/-! ## Exclusion (R37, R46) -/

/-- The entry of a channel excluded for this reason. -/
def excludedMember (reason : ExclusionReason) (holdoff : Nat) (m : Member) : Member :=
  { m with
    state := (match reason with | .score => .excluded | .linkLost => .detached)
    probationRun := 0
    holdoff := holdoff }

theorem excludedMember_not_voting (reason : ExclusionReason) (holdoff : Nat) (m : Member) :
    (excludedMember reason holdoff m).state ≠ .voting := by cases reason <;> exact fun h => nomatch h

/-- A channel excluded and counted, before its hand-offs. -/
def marked (u : State) (reason : ExclusionReason) (ch : Channel) : State :=
  ((u.modMember ch (excludedMember reason u.currentHoldoff)).count ch .exclusions).broadcast (.excluded ch reason)

theorem excludeChannel_eq (u : State) (reason : ExclusionReason) (ch : Channel) :
    u.excludeChannel reason ch = (marked u reason ch).leaveVoters ch (u.channelState ch) := rfl

/-- An exclusion with all that follows it: the member, the counter, the broadcast and the hand-offs (R37, R46, R50). -/
theorem exclude_settled (hs : Sound s) (hk : s.keepsAllBut u [.standing, .ports, .outbox])
    (hv : (s.channelState ch).isVoter = true) (hb : before.votingSet = s.votingSet) (reason : ExclusionReason) :
    let t := State.settleMembership before (u.excludeChannel reason ch)
    s.leftBy t ch ∧ t.outbox = u.outbox ++ toAll (.excluded ch reason :: s.leftNotices t ch)
      ∧ t.members = s.members.set ch (excludedMember reason s.currentHoldoff (s.members.get ch))
      ∧ t.standing = u.standing.set ch
          { u.standing.get ch with counters := (u.standing.get ch).counters.bump .exclusions }
      ∧ t.ports = u.ports := by
  have hmembers : u.members = s.members := hk .members (by decide)
  have hholdoff : u.currentHoldoff = s.currentHoldoff := by
    rw [State.currentHoldoff, State.currentHoldoff, show u.store = s.store from hk .store (by decide)]
  have hstate : u.channelState ch = s.channelState ch := by rw [State.channelState, State.channelState, hmembers]
  have kept : s.keepsAllBut (marked u reason ch) [.members, .standing, .ports, .outbox] :=
    (hk.mono (by decide)).trans <| ((u.modMember_keeps ch _).mono (by decide)).trans <|
      ((State.count_keeps _ ch _).mono (by decide)).trans ((State.broadcast_keeps _ _).mono (by decide))
  have out : (marked u reason ch).channelState ch ≠ .voting := by
    simpa [marked, State.channelState] using excludedMember_not_voting reason _ _
  obtain ⟨left, outbox⟩ := leave_settled hs kept hv out hb
  have after : (marked u reason ch).keepsAllBut
      (State.settleMembership before ((marked u reason ch).leaveVoters ch (s.channelState ch)))
      [.timer, .window, .changes, .part, .outbox, .groupState] :=
    ((State.leaveVoters_keeps _ ch _).mono (by decide)).trans ((State.settleMembership_keeps _ before).mono (by decide))
  simp only [excludeChannel_eq, hstate]
  refine ⟨left, ?_, ?_, ?_, ?_⟩
  · rw [outbox]
    exact List.append_assoc u.outbox [_] _
  · rw [show _ = (marked u reason ch).members from after .members (by decide)]
    simp only [marked, State.broadcast_members, State.count_members, State.modMember_members, hmembers, hholdoff]
  · exact (after .standing (by decide)).trans rfl
  · exact (after .ports (by decide)).trans rfl

/-! ## Weights (R101, R102) -/

/-- A weight that leaves the score below exclude_level, with ADVISORY at the crossing of warn_level. -/
theorem weighAndExclude_below {cfg : Configuration} {w : Int} (hi : u.store.installed = some cfg)
    (hsc : (u.channelState ch).isScored = true)
    (hbelow : weighted (u.standing.get ch).score w < cfg.record.excludeLevel) :
    u.weighAndExclude ch w =
      { u with
        standing := u.standing.set ch { u.standing.get ch with score := weighted (u.standing.get ch).score w }
        outbox := u.outbox ++ toOne ch
          (if (u.standing.get ch).score < cfg.record.warnLevel
              ∧ cfg.record.warnLevel ≤ weighted (u.standing.get ch).score w
            then [.advisory (weighted (u.standing.get ch).score w)] else []) } := by
  unfold State.weighAndExclude State.weigh
  simp only [hsc, if_true, hi, State.modStanding_store, scoreEffect, if_neg (Nat.not_le.mpr hbelow)]
  by_cases hw : (u.standing.get ch).score < cfg.record.warnLevel
      ∧ cfg.record.warnLevel ≤ weighted (u.standing.get ch).score w
  · simp only [if_pos hw]
    rfl
  · simp only [if_neg hw, toOne_nil, List.append_nil]
    rfl

/-- A weight that takes the score to exclude_level or above it, which excludes the channel. -/
theorem weighAndExclude_above {cfg : Configuration} {w : Int} (hi : u.store.installed = some cfg)
    (hsc : (u.channelState ch).isScored = true)
    (habove : cfg.record.excludeLevel ≤ weighted (u.standing.get ch).score w) :
    u.weighAndExclude ch w =
      State.settleMembership (u.modStanding ch fun st => { st with score := weighted (u.standing.get ch).score w })
        ((u.modStanding ch fun st => { st with score := weighted (u.standing.get ch).score w }).excludeChannel .score
          ch) := by
  unfold State.weighAndExclude State.weigh
  simp only [hsc, if_true, hi, State.modStanding_store, scoreEffect, if_pos habove]

theorem weighAndExclude_of_not_scored {w : Int} (hsc : (u.channelState ch).isScored = false) :
    u.weighAndExclude ch w = u := by
  unfold State.weighAndExclude State.weigh
  simp only [hsc, Bool.false_eq_true, if_false]

end OneChannel

theorem weighted_of_nonneg (score k : Nat) : weighted score (k : Int) = min (score + k) 255 := by
  unfold weighted
  omega

theorem isVoter_of_isScored {st : ChannelState} (h : st.isScored = true) : st.isVoter = true := by
  cases st <;> first | rfl | cases h

end Sys2Proof.Proofs.Leaving
end

section
/-! Lemmas about the Membership Table's reaction to a mark (R42, R47), and about folds over the channels whose steps do not
touch one another. -/

namespace Sys2Proof.Proofs.EachChannel

open Sys2Proof.Machine Sys2Proof.Proofs.Offers

/-! ## Folds whose steps each reach their own channel -/

theorem nodup_all : Channel.all.Nodup := by decide

section Folds

variable {σ β γ : Type} {f : σ → Channel → σ} {own : σ → Channel → β} {g : Channel → β → β} {inv : σ → Prop}
  (keeps : ∀ s ch, inv s → inv (f s ch))
  (step : ∀ s ch x, inv s → own (f s ch) x = if x = ch then g ch (own s ch) else own s x)
include keeps step

/-- What belongs to a channel is changed by that channel's step of the fold alone. -/
theorem foldl_own {l : List Channel} (hl : l.Nodup) {s : σ} (hs : inv s) (x : Channel) :
    own (l.foldl f s) x = if x ∈ l then g x (own s x) else own s x := by
  induction l generalizing s with
  | nil => rfl
  | cons ch l ih =>
    obtain ⟨hch, hl⟩ := List.nodup_cons.mp hl
    rw [List.foldl_cons, ih hl (keeps s ch hs), step s ch x hs]
    by_cases hx : x = ch
    · subst hx
      simp [hch]
    · simp [hx]

/-- What such a fold gathers, step by step, is what each channel gives before the fold. -/
theorem foldl_out {out : σ → List γ} {o : Channel → β → List γ}
    (hout : ∀ s ch, inv s → out (f s ch) = out s ++ o ch (own s ch)) {l : List Channel} (hl : l.Nodup) {s : σ}
    (hs : inv s) : out (l.foldl f s) = out s ++ l.flatMap fun ch => o ch (own s ch) := by
  induction l generalizing s with
  | nil => simp
  | cons ch l ih =>
    obtain ⟨hch, hl⟩ := List.nodup_cons.mp hl
    have later : (l.flatMap fun x => o x (own (f s ch) x)) = l.flatMap fun x => o x (own s x) := by
      refine List.flatMap_congr fun x hx => ?_
      rw [step s ch x hs, if_neg]
      rintro rfl
      exact hch hx
    rw [List.foldl_cons, ih hl (keeps s ch hs), hout s ch hs, later, List.flatMap_cons, List.append_assoc]

end Folds

/-- Of the notices that an event sends to each channel, a channel gets its own. -/
theorem noticesFor_flatMap_toOne (l : Channel → List Notice) (ch : Channel) :
    noticesFor (Channel.all.flatMap fun o => toOne o (l o)) ch 0 = l ch := by
  simp only [Channel.all, List.flatMap_cons, List.flatMap_nil, noticesFor_append, noticesFor_toOne]
  cases ch <;> simp [noticesFor]

end Sys2Proof.Proofs.EachChannel

namespace Sys2Proof.Proofs.CandidateStep

open Sys2Proof.Machine Sys2Proof.Proofs.Offers Sys2Proof.Proofs.SoundParts Sys2Proof.Proofs.MembersSettle
  Sys2Proof.Proofs.EachChannel

variable (s : State)

/-! ## One channel's step (R42, R47) -/

/-- A member after the candidate step in a group of this state (R42). -/
def stepped (g : GroupState) (m : Member) : Member :=
  match m.state, g with
  | .candidate, .active => { m with state := .probation, probationRun := 0 }
  | .candidate, .stalled => { m with state := .voting }
  | _, _ => m

/-- What the candidate step tells the channel of a member (R42). -/
def toldByStep (g : GroupState) (m : Member) : List Notice :=
  if m.state = .candidate ∧ g = .stalled then [.promoted] else []

theorem countHoldoff_own (ch x : Channel) : (s.countHoldoff ch).members.get x =
    if x = ch then { s.members.get ch with holdoff := (s.members.get ch).holdoff - 1 } else s.members.get x := by
  rw [State.countHoldoff_members, PerChannel.get_set]

theorem stepCandidate_own (g : GroupState) (ch x : Channel) : (State.stepCandidate g s ch).members.get x =
    if x = ch then stepped g (s.members.get ch) else s.members.get x := by
  unfold State.stepCandidate State.channelState
  by_cases h : (s.members.get ch).state = .candidate
  · rw [if_pos h]
    cases g with
    | active => simp [stepped, h, PerChannel.get_set]
    | stalled => simp [stepped, h, PerChannel.get_set]
    | empty =>
      simp only [stepped, h]
      split
      · next hx => rw [hx]
      · rfl
  · rw [if_neg h]
    have same : stepped g (s.members.get ch) = s.members.get ch := by
      unfold stepped
      split <;> simp_all
    split
    · next hx => rw [same, hx]
    · rfl

theorem stepCandidate_out (g : GroupState) (ch : Channel) :
    (State.stepCandidate g s ch).outbox = s.outbox ++ toOne ch (toldByStep g (s.members.get ch)) := by
  unfold State.stepCandidate State.channelState
  by_cases h : (s.members.get ch).state = .candidate
  · rw [if_pos h]
    cases g <;> simp [toldByStep, h, toOne_singleton]
  · rw [if_neg h]
    simp [toldByStep, h]

/-! ## All the channels -/

theorem holdoffs_members (x : Channel) : (Channel.all.foldl State.countHoldoff s).members.get x =
    { s.members.get x with holdoff := (s.members.get x).holdoff - 1 } := by
  have h := foldl_own (own := fun (s : State) x => s.members.get x)
    (g := fun _ (m : Member) => { m with holdoff := m.holdoff - 1 }) (inv := fun _ => True) (fun _ _ h => h)
    (fun s ch x _ => countHoldoff_own s ch x) nodup_all (s := s) trivial x
  rwa [if_pos x.mem_all] at h

theorem steps_members (g : GroupState) (x : Channel) :
    (Channel.all.foldl (State.stepCandidate g) s).members.get x = stepped g (s.members.get x) := by
  have h := foldl_own (own := fun (s : State) x => s.members.get x) (g := fun _ => stepped g) (inv := fun _ => True)
    (fun _ _ h => h) (fun s ch x _ => stepCandidate_own s g ch x) nodup_all (s := s) trivial x
  rwa [if_pos x.mem_all] at h

theorem steps_outbox (g : GroupState) : (Channel.all.foldl (State.stepCandidate g) s).outbox =
    s.outbox ++ Channel.all.flatMap fun ch => toOne ch (toldByStep g (s.members.get ch)) :=
  foldl_out (own := fun (s : State) x => s.members.get x) (g := fun _ => stepped g) (inv := fun _ => True)
    (out := State.outbox) (o := fun ch m => toOne ch (toldByStep g m)) (fun _ _ h => h)
    (fun s ch x _ => stepCandidate_own s g ch x) (fun s ch _ => stepCandidate_out s g ch) nodup_all trivial

/-- A step that finds no CANDIDATE settles nothing either, where the group state is the derived one. -/
theorem candidateStep_eq (hg : s.groupState = s.derivedGroupState) :
    s.candidateStep = State.settleMembership s (Channel.all.foldl (State.stepCandidate s.groupState) s) := by
  unfold State.candidateStep
  split
  · rfl
  · next h =>
    have none : ∀ ch, s.channelState ch ≠ .candidate := fun ch hc =>
      h (List.any_eq_true.mpr ⟨ch, ch.mem_all, by simp [hc]⟩)
    have same : Channel.all.foldl (State.stepCandidate s.groupState) s = s := by
      simp [Channel.all, State.stepCandidate, none]
    rw [same, settleMembership_eq, groupChange, if_pos hg.symm, ← hg]
    simp

/-- The table with the holdoffs counted. -/
def heldOff (s : State) : State := Channel.all.foldl State.countHoldoff s

theorem heldOff_keeps : s.keepsAllBut (heldOff s) [.members] :=
  .foldl (fun s ch => s.countHoldoff_keeps ch) _ s

theorem heldOff_votingSet : (heldOff s).votingSet = s.votingSet := votingSet_congr fun ch => by
  rw [State.channelState, heldOff, holdoffs_members]
  rfl

/-- The channels of the table after the holdoffs and the candidates' steps, before anything follows from them. -/
def membersMoved (s : State) : State := Channel.all.foldl (State.stepCandidate s.groupState) (heldOff s)

/-- The whole reaction, where the group state is the derived one: the moves and all that follows from them. -/
theorem membersTakeMark_eq {s : State} (hg : s.groupState = s.derivedGroupState) :
    s.membersTakeMark = State.settleMembership (heldOff s) (membersMoved s) := by
  have kept := heldOff_keeps s
  have group : (heldOff s).groupState = s.groupState := kept .groupState (by decide)
  have derived : (heldOff s).groupState = (heldOff s).derivedGroupState := by
    rw [group, hg]
    exact (derivedGroupState_congr (congrArg Store.installed (kept .store (by decide))) (heldOff_votingSet s)).symm
  rw [State.membersTakeMark, show Channel.all.foldl State.countHoldoff s = heldOff s from rfl, candidateStep_eq _ derived,
    group]
  rfl

theorem membersMoved_keeps : s.keepsAllBut (membersMoved s) [.members, .outbox] :=
  ((heldOff_keeps s).mono (by decide)).trans (.foldl (fun s ch => s.stepCandidate_keeps _ ch) _ _)

theorem membersMoved_members (ch : Channel) : (membersMoved s).members.get ch =
    stepped s.groupState { s.members.get ch with holdoff := (s.members.get ch).holdoff - 1 } := by
  rw [membersMoved, steps_members, heldOff, holdoffs_members]

theorem membersMoved_outbox : (membersMoved s).outbox =
    s.outbox ++ Channel.all.flatMap fun ch => toOne ch (toldByStep s.groupState (s.members.get ch)) := by
  have told : ∀ ch, toldByStep s.groupState ((heldOff s).members.get ch) = toldByStep s.groupState (s.members.get ch) :=
    fun ch => by rw [heldOff, holdoffs_members]; rfl
  rw [membersMoved, steps_outbox, show (heldOff s).outbox = s.outbox from heldOff_keeps s .outbox (by decide)]
  simp only [told]

/-! ## The whole reaction, its notices placed -/

theorem setTimer_keeps (t : Timer) : s.keepsAllBut { s with timer := t } [.timer] := fun b hb => by
  cases b <;> simp_all [State.sameBlock]

/-- The part when the Membership Table has taken a mark and its notices are placed. -/
def taken (s : State) : State := (State.settleMembership (heldOff s) (membersMoved s)).settleNotices

theorem taken_keeps : (membersMoved s).keepsAllBut (taken s) [.window, .groupState, .ports, .outbox] :=
  ((State.settleMembership_keeps _ _).mono (by decide)).trans ((State.settleNotices_keeps _).mono (by decide))

theorem taken_members (ch : Channel) : (taken s).members.get ch =
    stepped s.groupState { s.members.get ch with holdoff := (s.members.get ch).holdoff - 1 } := by
  rw [show (taken s).members = (membersMoved s).members from taken_keeps s .members (by decide), membersMoved_members]

theorem taken_votingSet : (taken s).votingSet = (membersMoved s).votingSet := votingSet_congr fun ch => by
  rw [State.channelState, State.channelState,
    show (taken s).members = (membersMoved s).members from taken_keeps s .members (by decide)]

theorem taken_groupState : (taken s).groupState = (membersMoved s).derivedGroupState := by
  rw [taken, show (State.settleNotices _).groupState = _ from State.settleNotices_keeps _ .groupState (by decide),
    settleMembership_eq]

theorem taken_groupState_derived : (taken s).groupState = (taken s).derivedGroupState := by
  rw [taken_groupState, derivedGroupState_congr (congrArg Store.installed (taken_keeps s .store (by decide)))
    (taken_votingSet s)]

theorem taken_window (hr : ∀ r ∈ s.window.rounds, r.checked s.votingSet = r) :
    (taken s).window = { s.window with rounds := s.window.rounds.map (Round.checked (taken s).votingSet) } := by
  have window : (membersMoved s).window = s.window := membersMoved_keeps s .window (by decide)
  have rounds := settleMembership_rounds (before := heldOff s) (s := membersMoved s) fun hvoting r hmem => by
    rw [window] at hmem
    rw [hvoting, heldOff_votingSet]
    exact hr r hmem
  rw [taken_votingSet, taken, show (State.settleNotices _).window = _ from State.settleNotices_keeps _ .window (by decide),
    ← window, ← rounds, settleMembership_eq]

theorem taken_ports (hout : s.outbox = []) (ch : Channel) :
    (s.ports.get ch).offeredAll ((taken s).ports.get ch)
      (toldByStep s.groupState (s.members.get ch) ++ s.groupNotice (taken s)) := by
  have outbox : (State.settleMembership (heldOff s) (membersMoved s)).outbox =
      (Channel.all.flatMap fun ch => toOne ch (toldByStep s.groupState (s.members.get ch)))
        ++ toAll (s.groupNotice (taken s)) := by
    rw [State.groupNotice, taken_groupState, settleMembership_eq]
    simp only [membersMoved_outbox, hout, List.nil_append]
    rw [groupChange, show (membersMoved s).groupState = s.groupState from membersMoved_keeps s .groupState (by decide)]
  have ports : (State.settleMembership (heldOff s) (membersMoved s)).ports = s.ports :=
    Eq.trans (State.settleMembership_keeps _ _ .ports (by decide)) (membersMoved_keeps s .ports (by decide))
  have offers := State.settleNotices_offeredAll (State.settleMembership (heldOff s) (membersMoved s)) ch fun o ho => by
    rw [outbox, List.mem_append] at ho
    rcases ho with ho | ho
    · obtain ⟨x, -, hx⟩ := List.mem_flatMap.mp ho
      exact stage_of_mem_toOne hx
    · exact stage_of_mem_toAll ho
  rwa [outbox, noticesFor_append, noticesFor_flatMap_toOne, noticesFor_toAll, ports] at offers

/-- A CANDIDATE has no probation run to lose, so its step moves its state alone. -/
theorem stepped_of_run_zero {g : GroupState} {m : Member} (h : m.state = .candidate → m.probationRun = 0) :
    stepped g m = { m with
      state :=
        (match m.state, g with
        | .candidate, .active => .probation
        | .candidate, .stalled => .voting
        | st, _ => st) } := by
  obtain ⟨state, announcement, holdoff, run, cycle⟩ := m
  cases state <;> cases g <;> simp_all [stepped]

end Sys2Proof.Proofs.CandidateStep

open Sys2Proof Sys2Proof.Machine Sys2Proof.Proofs.CycleTimer Sys2Proof.Proofs.EventNotices Sys2Proof.Proofs.Offers
  Sys2Proof.Proofs.SoundParts Sys2Proof.Proofs.MembersSettle Sys2Proof.Proofs.EachChannel Sys2Proof.Proofs.CandidateStep

/-- Settles O12: the reaction is the holdoffs, the candidates' steps and `settleMembership` (`membersTakeMark_eq`); each part
of the state is read from these three. -/
theorem candidateStepMovesAllTogether : Obligations.CandidateStepMovesAllTogether := by
  unfold Obligations.CandidateStepMovesAllTogether
  refine ⟨fun s => ⟨?_, fun ch => ⟨rfl, ?_⟩⟩, fun s o rest hs hoffer => ?_⟩
  · have counted : (Channel.all.filter fun ch => (s.members.get ch).state == .voting).length = s.votingSet.card := by
      rw [ChannelSet.card_eq_length]
      exact congrArg List.length (List.filter_congr fun ch _ => (votingSet_get s ch).symm)
    rw [counted]
    rfl
  · rw [votingSet_get, beq_iff_eq]
    rfl
  · let s₀ : State := { s with timer := { s.timer with offers := rest } }
    have hout : s₀.outbox = [] := (outbox_eq_nil hs :)
    have hg : s₀.groupState = s₀.derivedGroupState := (groupState_eq hs :)
    have event : exec (.mark (.takes [.membership])) s = .next (taken s₀) := by
      have reaction := takeMark_of_offer s (takeOffer_of_offersNext hoffer)
      obtain ⟨_, _, _, _, htaker, _⟩ := hoffer
      simp only [State.react, htaker] at reaction
      rw [taken, ← membersTakeMark_eq hg]
      exact congrArg Host.Outcome.next reaction
    have dropped : s.keepsAllBut s₀ [.timer] := setTimer_keeps s _
    have reacted : s.keepsAllBut (State.settleMembership (heldOff s₀) (membersMoved s₀))
        [.timer, .members, .window, .groupState, .outbox] :=
      (dropped.mono (by decide)).trans <| ((membersMoved_keeps s₀).mono (by decide)).trans
        ((State.settleMembership_keeps _ _).mono (by decide))
    have kept : s₀.keepsAllBut (taken s₀) [.members, .groupState, .window, .ports, .outbox] :=
      ((membersMoved_keeps s₀).mono (by decide)).trans ((taken_keeps s₀).mono (by decide))
    refine ⟨taken s₀, event, fun ch => ?_, taken_groupState_derived s₀,
      taken_window s₀ fun r hr => checked_eq_self hs hr, kept .timer (by decide), taken_ports s₀ hout,
      keeps_settleNotices reacted (outbox_eq_nil hs) (by decide) (by decide)⟩
    have run : s.channelState ch = .candidate → (s.members.get ch).probationRun = 0 := fun hc =>
      probationRun_eq_zero hs fun h => by rw [h] at hc; cases hc
    exact (taken_members s₀ ch).trans (stepped_of_run_zero run)

end

section
/-! Lemmas about an ANNOUNCE: its table of checks and the admission (R38, R39). -/

namespace Sys2Proof.Proofs.AnnounceRequest

open Sys2Proof.Machine Sys2Proof.Proofs.EventNotices Sys2Proof.Proofs.ChangeRequest

/-! ## The table of checks (R38) -/

theorem roleOfCode_eq_some {b : Byte} {role : Role} : roleOfCode b = some role ↔ b = roleCode role := by
  revert b
  cases role <;> decide

theorem roleOfCode_eq_none {b : Byte} : roleOfCode b = none ↔ (b == 1 || b == 2) = false := by
  revert b
  decide

theorem channelOfCode_eq_none {b : Byte} : channelOfCode b = none ↔ decide (b.toNat ≤ 3) = false := by
  revert b
  decide

theorem channelCode_inj {x y : Channel} (h : channelCode x = channelCode y) : x = y := by
  revert h
  cases x <;> cases y <;> decide

/-- Check 0 of R38: the length, the role and the letter. -/
def malformed (p : List Byte) : Bool :=
  p.length != 18 || !(p.getD 1 0 == 1 || p.getD 1 0 == 2) || !((p.getD 0 0).toNat ≤ 3)

/-- The fields that an ANNOUNCE from channel `letter` carries. -/
def announcement (role : Role) (letter : Channel) (p : List Byte) : Announcement where
  role := role
  letter := letter
  epoch := field32 p 2
  digest := field32 p 6
  identity := field32 p 10
  softwareTag := field32 p 14

theorem decodeAnnounce_cases (p : List Byte) :
    (malformed p = true ∧ decodeAnnounce p = none)
      ∨ ∃ role letter, malformed p = false ∧ p.getD 0 0 = channelCode letter ∧ p.getD 1 0 = roleCode role
        ∧ decodeAnnounce p = some (announcement role letter p) := by
  by_cases hlen : p.length = 18
  · cases hl : channelOfCode (p.getD 0 0) with
    | none => exact .inl ⟨by simp only [malformed, channelOfCode_eq_none.mp hl]; simp, by simp only [decodeAnnounce, hlen, hl, if_true]⟩
    | some letter =>
      cases hr : roleOfCode (p.getD 1 0) with
      | none =>
        exact .inl ⟨by simp only [malformed, roleOfCode_eq_none.mp hr]; simp, by simp only [decodeAnnounce, hlen, hl, hr, if_true]⟩
      | some role =>
        have code := channelOfCode_eq_some.mp hl
        have roleByte := roleOfCode_eq_some.mp hr
        refine .inr ⟨role, letter, ?_, code, roleByte, by simp only [decodeAnnounce, hlen, hl, hr, if_true]; rfl⟩
        rw [malformed, hlen, code, roleByte]
        cases letter <;> cases role <;> decide
  · exact .inl ⟨by simp [malformed, hlen], by simp [decodeAnnounce, hlen]⟩

variable {s : State} {ch : Channel}

/-- From check 1 on, the table of R38 is what the Membership Table tests. -/
theorem firstMet_announceTable {p : List Byte} {role : Role} {letter : Channel} (hm : malformed p = false)
    (hl : p.getD 0 0 = channelCode letter) (hr : p.getD 1 0 = roleCode role) :
    firstMet (s.announceTable ch p) = s.announceRefusal ch (announcement role letter p) := by
  have wrongPort : (p.getD 0 0 != channelCode ch) = decide (letter ≠ ch) := by
    rw [hl, Bool.eq_iff_iff, bne_iff_ne, decide_eq_true_eq]
    exact not_congr ⟨channelCode_inj, congrArg channelCode⟩
  have joined : ([ChannelState.candidate, .probation, .voting, .observer].contains (s.channelState ch)) =
      ((s.members.get ch).state.isVoter || (s.members.get ch).state == .observer) := by
    rw [State.channelState]
    cases (s.members.get ch).state <;> rfl
  have voter : (p.getD 1 0 == 1) = decide (role = .voter) := by
    rw [hr]
    cases role <;> rfl
  rw [malformed] at hm
  rw [State.announceTable, firstMet_cons, hm, if_neg Bool.false_ne_true]
  simp only [firstMet_cons, firstMet_nil, wrongPort, joined, voter, State.announceRefusal, announcement]
  cases role <;> cases s.store.installed <;> simp

theorem installed_of_admitted {a : Announcement} (h : s.announceRefusal ch a = none) :
    a.letter = ch ∧ (s.members.get ch).holdoff = 0 := by
  unfold State.announceRefusal at h
  cases hi : s.store.installed with
  | none => simp [hi] at h
  | some cfg =>
    simp only [hi] at h
    split at h
    · cases h
    · next letter =>
      split at h
      · cases h
      · split at h
        · cases h
        · next holdoff => exact ⟨not_not.mp letter, Nat.eq_zero_of_not_pos holdoff⟩

/-- What the Membership Table does with an ANNOUNCE: refused with the reason of the first check met, or the channel admitted
when none is met. -/
theorem takeAnnounce_cases (s : State) (ch : Channel) (p : List Byte) :
    (∃ r, firstMet (s.announceTable ch p) = some r ∧ s.takeAnnounce ch p = s.refuse ch announceKind r)
      ∨ ∃ role, firstMet (s.announceTable ch p) = none ∧ p.getD 1 0 = roleCode role ∧ (s.members.get ch).holdoff = 0
        ∧ s.takeAnnounce ch p = s.enrol ch (announcement role ch p) := by
  obtain ⟨hm, hd⟩ | ⟨role, letter, hm, hl, hr, hd⟩ := decodeAnnounce_cases p
  · refine .inl ⟨.badField, ?_, by simp only [State.takeAnnounce, hd]⟩
    rw [State.announceTable, firstMet_cons]
    exact if_pos hm
  · rw [firstMet_announceTable hm hl hr]
    cases hcheck : s.announceRefusal ch (announcement role letter p) with
    | some r => exact .inl ⟨r, rfl, by simp only [State.takeAnnounce, hd, hcheck]⟩
    | none =>
      obtain ⟨hletter, hholdoff⟩ := installed_of_admitted hcheck
      obtain rfl : letter = ch := hletter
      exact .inr ⟨role, rfl, hr, hholdoff, by simp only [State.takeAnnounce, hd, hcheck]⟩

/-! ## The admission (R39) -/

theorem admittedState_eq {p : List Byte} {role : Role} (hr : p.getD 1 0 = roleCode role) :
    role.admittedState = if p.getD 1 0 = 1 then .candidate else .observer := by
  rw [hr]
  cases role <;> rfl

theorem role_eq {p : List Byte} {role : Role} (hr : p.getD 1 0 = roleCode role) :
    role = if p.getD 1 0 = 1 then .voter else .observer := by
  rw [hr]
  cases role <;> rfl

/-- The entry of a channel that is admitted with no holdoff left. -/
theorem enrol_member (a : Announcement) (hholdoff : (s.members.get ch).holdoff = 0) (x : Channel) :
    (s.enrol ch a).members.get x =
      if x = ch then
        { state := a.role.admittedState, announcement := some a, holdoff := 0, probationRun := 0
          admissionCycle := s.timer.running.map (·.nextCycle) }
      else s.members.get x := by
  simp [State.enrol, PerChannel.get_set, hholdoff]

theorem enrol_standing (a : Announcement) (x : Channel) : (s.enrol ch a).standing.get x =
    if x = ch then { score := 0, counters := (s.standing.get ch).counters.bump .admissions } else s.standing.get x := by
  by_cases h : x = ch <;> simp [State.enrol, State.count, State.modStanding, State.send, PerChannel.get_set, h]

end Sys2Proof.Proofs.AnnounceRequest

open Sys2Proof Sys2Proof.Machine Sys2Proof.Proofs.EventNotices Sys2Proof.Proofs.ChangeRequest
  Sys2Proof.Proofs.AnnounceRequest

/-- Settles O31: `takeAnnounce_cases` reads the table of R38, and either the request is refused alone in its event or the
channel is enrolled. -/
theorem announceFollowsItsTable : Obligations.AnnounceFollowsItsTable := by
  unfold Obligations.AnnounceFollowsItsTable
  intro s ch p hpin hs hup
  refine ⟨_, congrArg Host.Outcome.next (receiveGood_of_up hpin hup _), ?_⟩
  obtain ⟨r, hmet, htake⟩ | ⟨role, hmet, hrole, hholdoff, htake⟩ := takeAnnounce_cases (heard s ch) ch p
  · rw [htake, show firstMet (s.announceTable ch p) = some r from hmet]
    exact refusedOnly_of_refuse (outbox_eq_nil hs) hup _ r
  · have hout : ((heard s ch).enrol ch (announcement role ch p)).outbox =
        [⟨0, some ch, .admitted role.admittedState⟩] := by
      simp [State.enrol, State.modStanding, heard, outbox_eq_nil hs, announcement]
    have kept := ((heard_keeps s ch).mono (m := [.standing, .ports, .members, .outbox]) (by decide)).trans
      ((State.enrol_keeps (heard s ch) ch (announcement role ch p)).mono (by decide))
    have notices := State.settleNotices_keeps ((heard s ch).enrol ch (announcement role ch p))
    have ports : ((heard s ch).enrol ch (announcement role ch p)).ports = (heard s ch).ports :=
      State.enrol_keeps (heard s ch) ch _ .ports (by decide)
    rw [htake, show firstMet (s.announceTable ch p) = none from hmet]
    simp only [← admittedState_eq hrole, ← role_eq hrole]
    refine ⟨fun x => ?_, fun x => ?_, fun x => ?_, keeps_settleNotices kept (outbox_eq_nil hs) (by decide) (by decide)⟩
    · rw [show (State.settleNotices _).members = _ from notices .members (by decide), enrol_member _ hholdoff]
      rfl
    · rw [show (State.settleNotices _).standing = _ from notices .standing (by decide), enrol_standing, heard_standing,
        heard_standing]
      by_cases hx : x = ch
      · simp [hx, State.heardStanding, Counters.bump, saturate16]
      · simp [hx, State.heardStanding]
    · rw [settleNotices_port_of_send _ hout, ports, heard_port]
      by_cases hx : x = ch
      · subst hx
        simp [Port.offered, heardPort_line, hup]
      · simp [hx, State.heardPort]

end

section
/-! Lemmas about a LEAVE: its table of checks, and the channel that goes to LINKED (R49). -/

namespace Sys2Proof.Proofs.LeaveRequest

open Sys2Proof.Machine Sys2Proof.Proofs.EventNotices Sys2Proof.Proofs.ChangeRequest Sys2Proof.Proofs.Offers
  Sys2Proof.Proofs.SoundParts Sys2Proof.Proofs.MembersSettle Sys2Proof.Proofs.Departures Sys2Proof.Proofs.Leaving

variable {s t : State} {ch : Channel}

/-! ## A group's timer -/

/-- A departure from a group drops no founding expiry, so that the timer stays (R28). -/
theorem timer_of_leftBy (hs : Sound s) {cfg : Configuration} (hi : s.store.installed = some cfg) (h : s.leftBy t ch) :
    t.timer = s.timer := by
  obtain ⟨-, -, -, -, ⟨-, -, timer⟩, -⟩ := h
  have none := foundingExpiries_of_installed hs hi
  simp only [none, List.filter_nil] at timer
  rw [timer]
  exact congrArg (fun l => { s.timer with foundingExpiries := l }) none.symm

theorem keeps_of_timer {l : List Block} (h : s.keepsAllBut t (.timer :: l)) (ht : t.timer = s.timer) :
    s.keepsAllBut t l := fun b hb => by
  by_cases hbt : b = .timer
  · subst hbt
    exact ht
  · exact h b (List.not_mem_cons_of_ne_of_not_mem hbt hb)

/-! ## The table of checks (R49) -/

/-- The part with channel `ch` in LINKED, before anything follows. -/
def linked (u : State) (ch : Channel) : State :=
  u.modMember ch fun m => { m with state := .linked, probationRun := 0 }

/-- The part when channel `ch` has left a voter state or OBSERVER, with what follows of it (R49, R50). -/
def leaving (u : State) (ch : Channel) : State :=
  if (u.channelState ch).isVoter then
    State.settleMembership u ((linked u ch).leaveVoters ch (u.channelState ch))
  else linked u ch

/-- What the Membership Table does with a LEAVE: refused with the reason of the first check met, or the channel goes to
LINKED. -/
theorem takeLeave_cases (s : State) {ch : Channel} (hd : s.channelState ch ≠ .detached) :
    (∃ r, firstMet (s.leaveTable ch) = some r ∧ s.takeLeave ch = s.refuse ch leaveKind r)
      ∨ (firstMet (s.leaveTable ch) = none ∧ (∃ cfg, s.store.installed = some cfg)
        ∧ ((s.channelState ch).isVoter = true ∨ s.channelState ch = .observer) ∧ s.takeLeave ch = leaving s ch) := by
  rw [State.leaveTable, firstMet_cons, firstMet_cons, firstMet_nil]
  cases hi : s.store.installed with
  | none => exact .inl ⟨.noGroup, rfl, by simp [State.takeLeave, State.isEmpty, hi]⟩
  | some cfg =>
    have configured : s.isEmpty = false := by simp [State.isEmpty, hi]
    simp only [State.takeLeave, leaving, configured]
    cases hst : s.channelState ch with
    | detached => exact absurd hst hd
    | linked | excluded => exact .inl ⟨.wrongState, rfl, rfl⟩
    | candidate | probation | voting => exact .inr ⟨rfl, ⟨cfg, rfl⟩, .inl rfl, rfl⟩
    | observer => exact .inr ⟨rfl, ⟨cfg, rfl⟩, .inr rfl, rfl⟩

/-! ## The channel that leaves (R50) -/

theorem heard_keeps_linked : s.keepsAllBut (linked (heard s ch) ch) [.members, .standing, .ports, .outbox] :=
  ((heard_keeps s ch).mono (by decide)).trans ((State.modMember_keeps _ ch _).mono (by decide))

theorem linked_not_voting (u : State) : (linked u ch).channelState ch ≠ .voting := by
  simp [linked, State.channelState]

theorem linked_votingSet (u : State) (h : u.channelState ch ≠ .voting) : (linked u ch).votingSet = u.votingSet :=
  votingSet_congr fun x => by
    by_cases hx : x = ch
    · subst hx
      exact iff_of_false (linked_not_voting u) h
    · simp [linked, State.channelState, PerChannel.get_set, hx]

theorem linked_member (x : Channel) : (linked (heard s ch) ch).members.get x =
    if x = ch then { s.members.get ch with state := .linked, probationRun := 0 } else s.members.get x := by
  simp only [linked, State.modMember_members, PerChannel.get_set]
  rfl

theorem leaving_keeps : (linked (heard s ch) ch).keepsAllBut (leaving (heard s ch) ch)
    [.timer, .window, .changes, .part, .outbox, .groupState] := by
  unfold leaving
  split
  · exact ((State.leaveVoters_keeps _ ch _).mono (by decide)).trans ((State.settleMembership_keeps _ _).mono (by decide))
  · exact .refl _ _

/-- A voter's LEAVE: the channel leaves, and every port is offered what follows. -/
theorem leaving_of_voter (hs : Sound s) (hv : (s.channelState ch).isVoter = true) :
    s.leftBy (leaving (heard s ch) ch) ch
      ∧ (leaving (heard s ch) ch).outbox = toAll (s.leftNotices (leaving (heard s ch) ch) ch) := by
  have empty : (linked (heard s ch) ch).outbox = [] := (outbox_eq_nil hs :)
  obtain ⟨left, outbox⟩ := leave_settled (before := heard s ch) hs heard_keeps_linked hv (linked_not_voting _) rfl
  rw [empty, List.nil_append] at outbox
  rw [leaving, if_pos (show ((heard s ch).channelState ch).isVoter = true from hv)]
  exact ⟨left, outbox⟩

/-- An OBSERVER's LEAVE: nothing else in the part changes, and no port is told. -/
theorem leaving_of_observer (hs : Sound s) (hst : s.channelState ch = .observer) :
    s.leftBy (leaving (heard s ch) ch) ch
      ∧ (leaving (heard s ch) ch).outbox = toAll (s.leftNotices (leaving (heard s ch) ch) ch) := by
  have empty : (linked (heard s ch) ch).outbox = [] := (outbox_eq_nil hs :)
  have hreach : s.reachesChanges ch = false := by simp [State.reachesChanges, hst]
  have hv : (s.channelState ch).isVoter = false := by rw [hst]; rfl
  have kept := heard_keeps_linked (s := s) (ch := ch)
  have voting : (linked (heard s ch) ch).votingSet = s.votingSet := linked_votingSet (heard s ch) fun h =>
    ChannelState.noConfusion (hst.symm.trans h)
  have changes : s.changesNow (linked (heard s ch) ch) (if s.reachesChanges ch then s.changes.without ch else s.changes) := by
    rw [hreach]
    exact changesNow_of_same hs (kept .changes (by decide)) (kept .part (by decide)) (kept .timer (by decide))
  have none : s.leftNotices (linked (heard s ch) ch) ch = [] := by
    simp only [State.leftNotices, hreach, State.groupNotice,
      show (linked (heard s ch) ch).groupState = s.groupState from kept .groupState (by decide)]
    simp
  rw [leaving, if_neg (show ¬ ((heard s ch).channelState ch).isVoter = true from fun h => Bool.noConfusion (hv.symm.trans h)),
    none]
  refine ⟨leftBy_of_not_voter hs hv (kept .store (by decide)) (kept .window (by decide)) (kept .groupState (by decide))
    voting changes ?_, empty⟩
  rw [show (linked (heard s ch) ch).part = s.part from kept .part (by decide)]

end Sys2Proof.Proofs.LeaveRequest

open Sys2Proof Sys2Proof.Machine Sys2Proof.Proofs.EventNotices Sys2Proof.Proofs.ChangeRequest Sys2Proof.Proofs.Offers
  Sys2Proof.Proofs.SoundParts Sys2Proof.Proofs.Leaving Sys2Proof.Proofs.LeaveRequest

/-- Settles O32: `takeLeave_cases` reads the table of R49; a voter leaves as `leaving_of_voter` says, an OBSERVER as
`leaving_of_observer` does. -/
theorem leaveFollowsItsTable : Obligations.LeaveFollowsItsTable := by
  unfold Obligations.LeaveFollowsItsTable
  intro s ch p hpin hs hup
  have hd : s.channelState ch ≠ .detached := fun h => (detached_iff hs ch).mp h hup
  refine ⟨_, congrArg Host.Outcome.next (receiveGood_of_up hpin hup _), ?_⟩
  obtain ⟨r, hmet, htake⟩ | ⟨hmet, ⟨cfg, hi⟩, hst, htake⟩ := takeLeave_cases (heard s ch) (ch := ch) hd
  · rw [htake, show firstMet (s.leaveTable ch) = some r from hmet]
    exact refusedOnly_of_refuse (outbox_eq_nil hs) hup _ r
  · rw [htake, show firstMet (s.leaveTable ch) = none from hmet]
    have hst : (s.channelState ch).isVoter = true ∨ s.channelState ch = .observer := hst
    obtain ⟨left, outbox⟩ : s.leftBy (leaving (heard s ch) ch) ch
        ∧ (leaving (heard s ch) ch).outbox = toAll (s.leftNotices (leaving (heard s ch) ch) ch) :=
      hst.elim (fun hv => leaving_of_voter hs hv) fun ho => leaving_of_observer hs ho
    have kept := leaving_keeps (s := s) (ch := ch)
    generalize leaving (heard s ch) ch = t at left outbox kept
    have notices := t.settleNotices_keeps
    refine ⟨fun x => ?_, fun x => ?_, leftBy_settleNotices left, fun x => ?_,
      keeps_of_timer (keeps_settleNotices (l := [.members, .standing, .ports, .outbox, .timer, .window, .changes, .part,
        .groupState]) ((heard_keeps_linked.mono (by decide)).trans (kept.mono (by decide))) (outbox_eq_nil hs) (by decide)
        (by decide)) (timer_of_leftBy hs hi (leftBy_settleNotices left))⟩
    · rw [show t.settleNotices.members = t.members from notices .members (by decide),
        show t.members = (linked (heard s ch) ch).members from kept .members (by decide), linked_member]
    · rw [settleNotices_standing, show t.standing = (linked (heard s ch) ch).standing from kept .standing (by decide)]
      exact heard_standing s ch x
    · have offers := settleNotices_toAll outbox x
      rw [show t.ports = (linked (heard s ch) ch).ports from kept .ports (by decide)] at offers
      rw [← heard_port, leftNotices_congr (notices .groupState (by decide))]
      exact offers

end

section
/-! Lemmas about the acceptance span and a late or mismatched PROPOSAL (R62, R63, R66). -/

namespace Sys2Proof.Proofs.Span

open Sys2Proof.Machine

/-! ## Consecutive cycle numbers (R60) -/

theorem endsBefore_mem_iff {next : Cycle} {l : List Cycle} (h : endsBefore next l = true) (c : Cycle) :
    c ∈ l ↔ ∃ k, 1 ≤ k ∧ k ≤ l.length ∧ c = next - BitVec.ofNat 32 k := by
  induction l with
  | nil =>
    refine iff_of_false (List.not_mem_nil) ?_
    rintro ⟨k, h1, hk, -⟩
    exact absurd (h1.trans hk) (by decide)
  | cons first rest ih =>
    simp only [endsBefore, Bool.and_eq_true, beq_iff_eq] at h
    obtain ⟨hfirst, hrest⟩ := h
    rw [List.mem_cons, ih hrest]
    constructor
    · rintro (rfl | ⟨k, h1, hk, hc⟩)
      · exact ⟨rest.length + 1, Nat.succ_pos _, Nat.le_refl _, hfirst⟩
      · exact ⟨k, h1, Nat.le_succ_of_le hk, hc⟩
    · rintro ⟨k, h1, hk, hc⟩
      rcases Nat.lt_or_eq_of_le hk with hlt | heq
      · exact .inr ⟨k, h1, Nat.le_of_lt_succ hlt, hc⟩
      · exact .inl (by rw [hc, hfirst, heq]; rfl)

theorem endsBefore_head {next : Cycle} {l : List Cycle} (h : endsBefore next l = true) :
    l.head?.getD next = next - BitVec.ofNat 32 l.length := by
  cases l with
  | nil => simp
  | cons first rest =>
    simp only [endsBefore, Bool.and_eq_true, beq_iff_eq] at h
    exact h.1

/-- A cycle is among the last `n` before `next`, or is `next`, exactly when it is no more than `n` behind it. -/
theorem exists_behind_iff {next c : Cycle} {n : Nat} (hn : n ≤ 4) :
    (next = c ∨ ∃ k, 1 ≤ k ∧ k ≤ n ∧ c = next - BitVec.ofNat 32 k) ↔ (next - c).toNat ≤ n := by
  constructor
  · rintro (rfl | ⟨k, -, hk, rfl⟩)
    · simp
    · bv_omega
  · intro h
    by_cases hc : next = c
    · exact .inl hc
    · have distance : BitVec.ofNat 32 (next - c).toNat = next - c := by rw [BitVec.ofNat_toNat, BitVec.setWidth_eq]
      refine .inr ⟨(next - c).toNat, ?_, h, by rw [distance, sub_sub_cancel]⟩
      bv_omega

theorem sub_first_le_iff {next c : Cycle} {n : Nat} (hn : n ≤ 4) :
    (c - (next - BitVec.ofNat 32 n)).toNat ≤ (next - (next - BitVec.ofNat 32 n)).toNat ↔ (next - c).toNat ≤ n := by
  bv_omega

theorem not_older_of_behind {next c : Cycle} (h : (next - c).toNat ≤ 4) : older next c = false := by
  unfold older
  simp only [Bool.and_eq_false_iff, decide_eq_false_iff_not]
  bv_omega

/-! ## The three classes of a cycle (R62) -/

variable {s : State} (hs : Sound s)
include hs

theorem rounds_length_le : s.window.rounds.length ≤ 4 := by
  have h := hs.bounded
  simp only [State.bounded, Bool.and_eq_true, decide_eq_true_eq] at h
  obtain ⟨⟨⟨⟨⟨-, rounds⟩, -⟩, -⟩, -⟩, -⟩ := h
  exact rounds

theorem rounds_endBefore {next : Cycle} (hn : s.window.nextRound = some next) :
    endsBefore next (s.window.rounds.map (·.cycle)) = true := by
  have h := hs.rounds
  simp only [State.roundsRun, hn, Bool.and_eq_true] at h
  exact h.1

theorem inSpan_iff {next : Cycle} (hn : s.window.nextRound = some next) (c : Cycle) :
    s.inSpan c = true ↔ (next - c).toNat ≤ s.window.rounds.length := by
  have mem := endsBefore_mem_iff (rounds_endBefore hs hn) c
  rw [List.length_map] at mem
  rw [← exists_behind_iff (rounds_length_le hs), ← mem]
  simp [State.inSpan, hn]

/-- A cycle is inside the span, newer than the next round number, or behind (R62). -/
theorem spanClass_eq {next : Cycle} (hn : s.window.nextRound = some next) (c : Cycle) :
    s.window.spanClass next c = if s.inSpan c then .inside else if older next c then .newer else .behind := by
  have head := endsBefore_head (rounds_endBefore hs hn)
  rw [List.length_map, List.head?_map] at head
  simp only [Window.spanClass, head, sub_first_le_iff (rounds_length_le hs), inSpan_iff hs hn]

theorem not_older_of_inSpan {next : Cycle} (hn : s.window.nextRound = some next) {c : Cycle} (hc : s.inSpan c = true) :
    older next c = false :=
  not_older_of_behind (((inSpan_iff hs hn c).mp hc).trans (rounds_length_le hs))

/-- A group has a next round number (R60). -/
theorem nextRound_of_installed {cfg : Configuration} (hi : s.store.installed = some cfg) :
    ∃ next, s.window.nextRound = some next := by
  have h := hs.group
  simp only [State.groupAgrees, hi, Bool.and_eq_true] at h
  exact Option.isSome_iff_exists.mp h.2.1.1.2

end Sys2Proof.Proofs.Span

namespace Sys2Proof.Proofs.WeighedProposal

open Sys2Proof.Machine Sys2Proof.Proofs.ChangeRequest Sys2Proof.Proofs.Span

/-! ## The table of PROPOSAL (R63, R64, R66) -/

theorem proposalItems_length (map : Word32) (i : Nat) (l : List Byte) : (proposalItems map i l).length = l.length / 2 := by
  induction l using List.twoStepInduction generalizing i with
  | nil => rfl
  | singleton x => simp [proposalItems]
  | cons_cons x y l ih _ =>
    rw [proposalItems, List.length_cons, ih]
    simp only [List.length_cons]
    omega

/-- The fields of a PROPOSAL of 13 bytes or more. -/
def proposalFields (p : List Byte) : ProposalFields where
  cycle := field32 p 0
  epoch := field32 p 4
  itemCount := field p 8 1
  items := proposalItems (field32 p 9) 0 (p.drop 13)
  oddLength := (p.length - 13) % 2 == 1

theorem decodeProposal_eq (p : List Byte) : decodeProposal p = if p.length < 13 then none else some (proposalFields p) :=
  rfl

/-- The check of R64 over the bytes of a PROPOSAL. -/
theorem fits_iff {p : List Byte} (hp : ¬ p.length < 13) (cfg : Configuration) : (proposalFields p).fits cfg =
    (field32 p 4 == cfg.epoch && field p 8 1 == cfg.schema.length && p.length == 13 + 2 * field p 8 1) := by
  have whole : ((p.length - 13) / 2 = field p 8 1 ∧ ¬ (p.length - 13) % 2 = 1) ↔ p.length = 13 + 2 * field p 8 1 := by
    omega
  rw [Bool.eq_iff_iff]
  simp only [ProposalFields.fits, proposalFields, proposalItems_length, List.length_drop, Bool.and_eq_true, beq_iff_eq,
    Bool.not_eq_true', beq_eq_false_iff_ne, ne_eq, ← whole, and_assoc]

/-- The weight of a PROPOSAL that comes late, and of one that does not match (R66). -/
def proposalWeight (name : CounterName) : Nat := if name = .late then 4 else 8

variable {s : State} {ch : Channel}

theorem notVoter_check (hsc : (s.channelState ch).isScored = true) {cfg : Configuration}
    (hi : s.store.installed = some cfg) :
    (s.store.installed.isNone || !([ChannelState.candidate, .probation, .voting].contains (s.channelState ch))) = false := by
  rw [hi]
  cases h : s.channelState ch <;> first | rfl | (rw [h] at hsc; cases hsc)

/-- A PROPOSAL whose first check met is a weighted one is counted under that name and weighed (R63, R66). -/
theorem takeProposal_of_weighted {p : List Byte} {name : CounterName} {cfg : Configuration} {next : Cycle}
    (hsc : (s.channelState ch).isScored = true) (hi : s.store.installed = some cfg) (hn : s.window.nextRound = some next)
    (hspan : ∀ c, s.window.spanClass next c =
      if s.inSpan c then .inside else if older next c then .newer else .behind)
    (hold : ∀ c, s.inSpan c = true → older next c = false)
    (hmet : firstMet (s.proposalTable ch p) = some name) (hname : name = .late ∨ name = .epochWrong) :
    s.takeProposal ch p = (s.count ch name).weighAndExclude ch (proposalWeight name : Nat) := by
  have configured : s.isEmpty = false := by simp [State.isEmpty, hi]
  have voter : (s.channelState ch).isVoter = true := Leaving.isVoter_of_isScored hsc
  have enters : (s.isEmpty || !(s.channelState ch).isVoter) = false := by simp [configured, voter]
  have sealed : (s.window.rounds.any fun r => r.cycle == field32 p 0 && r.sealedBy.isSome) =
      s.window.rounds.any fun r => r.cycle == (proposalFields p).cycle && !r.isOpen := by
    congr 1
    funext r
    rw [Round.isOpen]
    cases r.sealedBy <;> rfl
  rw [State.takeProposal, enters, if_neg Bool.false_ne_true, decodeProposal_eq, hn]
  simp only [State.proposalTable, firstMet_cons, firstMet_nil, notVoter_check hsc hi, hn, Option.any_some, sealed,
    Bool.false_eq_true, if_false, decide_eq_true_eq] at hmet
  by_cases hp : p.length < 13
  · rw [if_pos hp] at hmet ⊢
    obtain rfl : CounterName.epochWrong = name := Option.some.inj hmet
    rfl
  · simp only [if_neg hp, State.sortProposal, ← fits_iff hp] at hmet ⊢
    have hcycle : (proposalFields p).cycle = field32 p 0 := rfl
    rw [hcycle] at hmet ⊢
    rw [hspan]
    cases hin : s.inSpan (field32 p 0) with
    | false =>
      have unsealed : (s.window.rounds.any fun r => r.cycle == field32 p 0 && !r.isOpen) = false := by
        refine Bool.eq_false_iff.mpr fun h => ?_
        obtain ⟨r, hr, hsealed⟩ := List.any_eq_true.mp h
        have inside : s.inSpan (field32 p 0) = true := by
          simp only [Bool.and_eq_true] at hsealed
          simp only [State.inSpan, Bool.or_eq_true]
          exact .inr (List.any_eq_true.mpr ⟨r, hr, hsealed.1⟩)
        rw [hin] at inside
        exact Bool.false_ne_true inside
      cases hnew : older next (field32 p 0) with
      | false =>
        simp only [hin, hnew, unsealed] at hmet ⊢
        obtain rfl : CounterName.late = name := Option.some.inj hmet
        rfl
      | true =>
        simp only [hin, hnew, unsealed] at hmet
        obtain rfl : CounterName.early = name := Option.some.inj hmet
        rcases hname with h | h <;> cases h
    | true =>
      rw [hin, hold _ hin] at hmet
      simp only [if_true]
      cases hsealed : s.window.rounds.any fun r => r.cycle == field32 p 0 && !r.isOpen with
      | true =>
        simp only [hsealed] at hmet
        obtain rfl : CounterName.late = name := Option.some.inj hmet
        rfl
      | false =>
        cases hfits : (s.store.inForce (field32 p 0)).any (proposalFields p).fits with
        | false =>
          have hmet : some CounterName.epochWrong = some name := by simpa [hsealed, hfits] using hmet
          obtain rfl := Option.some.inj hmet
          rfl
        | true =>
          have hmet : (if (s.window.queues.get ch).any (fun e => e.cycle == field32 p 0) = true then
              some CounterName.duplicate
            else if ((s.window.queues.get ch).length == 4) = true then some .queueFull else none) = some name := by
            simpa [hsealed, hfits] using hmet
          split at hmet
          · cases hmet
            rcases hname with h | h <;> cases h
          · split at hmet
            · cases hmet
              rcases hname with h | h <;> cases h
            · cases hmet

end Sys2Proof.Proofs.WeighedProposal
end

section
/-! Lemmas about a weight at one channel of a sound part, and about bad frames in UP (R101, R102, R104, R152, R154). -/

namespace Sys2Proof.Proofs.Weighing

open Sys2Proof.Machine Sys2Proof.Proofs.Offers Sys2Proof.Proofs.SoundParts Sys2Proof.Proofs.MembersSettle
  Sys2Proof.Proofs.Leaving

/-- A standing with a score reached and an exclusion counted. -/
def excludedStanding (score : Nat) (st : Standing) : Standing :=
  { score, counters := { st.counters with exclusions := min (st.counters.exclusions + 1) 65535 } }

/-- The notice of a score's crossing of warn_level (R102). -/
def advisoryOf (warnLevel before after : Nat) : List Notice :=
  if before < warnLevel ∧ warnLevel ≤ after then [.advisory after] else []

theorem isScored_iff {st : ChannelState} : st.isScored = true ↔ st = .probation ∨ st = .voting := by
  cases st <;> simp [ChannelState.isScored]

theorem isVoter_iff {st : ChannelState} :
    st.isVoter = true ↔ st = .candidate ∨ st = .probation ∨ st = .voting := by
  cases st <;> simp [ChannelState.isVoter]

theorem set_standing_outbox_keeps (u : State) (standing : PerChannel Standing) (outbox : List NoticeOffer) :
    u.keepsAllBut { u with standing := standing, outbox := outbox } [.standing, .outbox] := fun b hb => by
  cases b <;> simp_all [State.sameBlock]

variable {s u : State} {ch : Channel} {cfg : Configuration} {k : Nat}

/-- A weight that does not take a scored channel to exclude_level. -/
theorem weighed_below (hi : u.store.installed = some cfg) (hsc : (u.channelState ch).isScored = true)
    (hbelow : min ((u.standing.get ch).score + k) 255 < cfg.record.excludeLevel) :
    u.weighAndExclude ch (k : Int) =
      { u with
        standing := u.standing.set ch { u.standing.get ch with score := min ((u.standing.get ch).score + k) 255 }
        outbox := u.outbox ++ toOne ch (advisoryOf cfg.record.warnLevel (u.standing.get ch).score
          (min ((u.standing.get ch).score + k) 255)) } := by
  rw [weighAndExclude_below hi hsc (by rwa [weighted_of_nonneg]), weighted_of_nonneg]
  rfl

/-- A weight that takes a scored channel to exclude_level or above it excludes the channel in the same event. -/
theorem weighed_above (hs : Sound s) (hk : s.keepsAllBut u [.standing, .ports, .outbox])
    (hi : s.store.installed = some cfg) (hsc : (s.channelState ch).isScored = true)
    (habove : cfg.record.excludeLevel ≤ min ((u.standing.get ch).score + k) 255) :
    s.leftBy (u.weighAndExclude ch (k : Int)) ch
      ∧ (u.weighAndExclude ch (k : Int)).outbox =
          u.outbox ++ toAll (.excluded ch .score :: s.leftNotices (u.weighAndExclude ch (k : Int)) ch)
      ∧ (u.weighAndExclude ch (k : Int)).members =
          s.members.set ch (excludedMember .score s.currentHoldoff (s.members.get ch))
      ∧ (u.weighAndExclude ch (k : Int)).standing =
          u.standing.set ch (excludedStanding (min ((u.standing.get ch).score + k) 255) (u.standing.get ch))
      ∧ (u.weighAndExclude ch (k : Int)).ports = u.ports := by
  have members : u.members = s.members := hk .members (by decide)
  have installed : u.store.installed = some cfg := by rw [show u.store = s.store from hk .store (by decide), hi]
  have scored : (u.channelState ch).isScored = true := by rwa [State.channelState, members]
  rw [weighAndExclude_above installed scored (by rwa [weighted_of_nonneg]), weighted_of_nonneg]
  have voting : (u.modStanding ch fun st => { st with score := min ((u.standing.get ch).score + k) 255 }).votingSet =
      s.votingSet := votingSet_congr fun x => by rw [State.channelState, State.channelState, State.modStanding_members, members]
  obtain ⟨left, outbox, member, standing, ports⟩ := exclude_settled hs
    (hk.trans ((u.modStanding_keeps ch _).mono (by decide))) (isVoter_of_isScored hsc) voting .score
  refine ⟨left, outbox, member, standing.trans ?_, ports⟩
  simp [excludedStanding, Counters.bump, saturate16]

theorem weighAndExclude_ports (w : Int) : (u.weighAndExclude ch w).ports = u.ports :=
  u.weighAndExclude_keeps ch w .ports (by decide)

/-- ADVISORY at a crossing of warn_level reaches the channel's own port, which is UP. -/
theorem settleNotices_advised {warnLevel before after : Nat} (h : u.outbox = toOne ch (advisoryOf warnLevel before after))
    (hup : (u.ports.get ch).line = .up) (x : Channel) : u.settleNotices.ports.get x =
      if x = ch ∧ before < warnLevel ∧ warnLevel ≤ after then (u.ports.get x).takeNotice (.advisory after)
      else u.ports.get x := by
  by_cases hw : before < warnLevel ∧ warnLevel ≤ after
  · rw [advisoryOf, if_pos hw] at h
    rw [EventNotices.settleNotices_port_of_send u h]
    by_cases hx : x = ch
    · subst hx
      simp [Port.offered, hup, hw]
    · simp [hx]
  · rw [advisoryOf, if_neg hw] at h
    rw [u.settleNotices_of_empty h, if_neg fun hx => hw hx.2]

end Sys2Proof.Proofs.Weighing

open Sys2Proof Sys2Proof.Machine Sys2Proof.Proofs.EventNotices Sys2Proof.Proofs.ChangeRequest Sys2Proof.Proofs.Offers
  Sys2Proof.Proofs.SoundParts Sys2Proof.Proofs.Leaving Sys2Proof.Proofs.LeaveRequest Sys2Proof.Proofs.Span
  Sys2Proof.Proofs.WeighedProposal Sys2Proof.Proofs.Weighing

/-- Settles O35: the PROPOSAL is counted and weighed (`takeProposal_of_weighted`), and the weight leaves the channel below
exclude_level (`weighed_below`) or excludes it (`weighed_above`). -/
theorem lateOrMismatchedProposalIsWeighed : Obligations.LateOrMismatchedProposalIsWeighed := by
  unfold Obligations.LateOrMismatchedProposalIsWeighed
  intro s ch p name cfg hpin hs hscored hi hmet hname before score c
  have hsc : (s.channelState ch).isScored = true := isScored_iff.mpr hscored
  have hup : (s.ports.get ch).line = .up := by
    by_contra hnot
    have detached := (detached_iff hs ch).mpr hnot
    rw [detached] at hsc
    cases hsc
  obtain ⟨next, hn⟩ := nextRound_of_installed hs hi
  have taken := takeProposal_of_weighted (s := heard s ch) hsc hi hn (fun c => spanClass_eq hs hn c)
    (fun c => not_older_of_inSpan hs hn) hmet hname
  refine ⟨_, congrArg Host.Outcome.next (receiveGood_of_up hpin hup _), ?_⟩
  rw [taken]
  have counted : s.keepsAllBut ((heard s ch).count ch name) [.standing, .ports, .outbox] :=
    ((heard_keeps s ch).mono (by decide)).trans ((State.count_keeps _ ch name).mono (by decide))
  have standing : ((heard s ch).count ch name).standing = s.standing.set ch { s.standing.get ch with counters := c } := by
    simp [heard, State.count, State.modStanding, State.modPort, State.reopenFrame, c]
  have empty : ((heard s ch).count ch name).outbox = [] := (outbox_eq_nil hs :)
  have ports : ((heard s ch).count ch name).ports = (heard s ch).ports := rfl
  generalize (heard s ch).count ch name = u at counted standing empty ports
  have own : u.standing.get ch = { s.standing.get ch with counters := c } := by rw [standing, PerChannel.get_set_same]
  have hscore : min ((u.standing.get ch).score + proposalWeight name) 255 = score := by rw [own]; rfl
  have scored : (u.channelState ch).isScored = true := by
    rwa [State.channelState, show u.members = s.members from counted .members (by decide)]
  have installed : u.store.installed = some cfg := by rw [show u.store = s.store from counted .store (by decide), hi]
  have up : ∀ x, (u.ports.get x).line = (s.ports.get x).line := fun x => by rw [ports, heard_port, heardPort_line]
  rcases Nat.lt_or_ge score cfg.record.excludeLevel with below | above
  · have weighed := weighed_below (k := proposalWeight name) installed scored (by rwa [hscore])
    rw [hscore, empty, List.nil_append] at weighed
    have kept : s.keepsAllBut (u.weighAndExclude ch (proposalWeight name : Nat)) [.standing, .ports, .outbox] := by
      rw [weighed]
      exact counted.trans ((set_standing_outbox_keeps u _ _).mono (by decide))
    have standing' : (u.weighAndExclude ch (proposalWeight name : Nat)).standing =
        s.standing.set ch { score, counters := c } := by
      rw [weighed]
      simp only [standing, PerChannel.get_set_same, PerChannel.set_set]
    refine ⟨fun x hx => ?_, fun _ => ⟨?_, fun x => ?_, keeps_settleNotices kept (outbox_eq_nil hs) (by decide) (by decide)⟩,
      fun h => absurd h (Nat.not_le.mpr below)⟩
    · rw [settleNotices_standing, standing', PerChannel.get_set_other _ hx]
    · rw [settleNotices_standing, standing', PerChannel.get_set_same]
    · have told := settleNotices_advised (u := u.weighAndExclude ch (proposalWeight name : Nat)) (ch := ch)
        (congrArg State.outbox weighed) (by rw [weighAndExclude_ports, up, hup]) x
      rw [told, weighAndExclude_ports, ports, heard_port, own]
  · obtain ⟨left, outbox, members, standing', ports'⟩ := weighed_above (k := proposalWeight name) hs counted hi hsc
      (by rwa [hscore])
    rw [hscore, own, standing, PerChannel.set_set] at standing'
    rw [empty, List.nil_append] at outbox
    have kept := (counted.mono
      (m := [.standing, .ports, .outbox, .timer, .members, .groupState, .window, .changes, .part]) (by decide)).trans
      ((u.weighAndExclude_keeps ch (proposalWeight name : Nat)).mono (by decide))
    generalize u.weighAndExclude ch (proposalWeight name : Nat) = t at *
    refine ⟨fun x hx => ?_, fun h => absurd h (Nat.not_lt.mpr above), fun _ => ⟨?_, ⟨fun x => ?_, leftBy_settleNotices left⟩,
      fun x => ?_, ?_⟩⟩
    · rw [settleNotices_standing, standing', PerChannel.get_set_other _ hx]
    · rw [settleNotices_standing, standing', PerChannel.get_set_same]
      rfl
    · rw [show t.settleNotices.members = t.members from t.settleNotices_keeps .members (by decide), members,
        PerChannel.get_set]
      split
      · next hx => rw [hx]; rfl
      · rfl
    · have offers := settleNotices_toAll outbox x
      rw [ports', ports, heard_port] at offers
      rwa [leftNotices_congr (t.settleNotices_keeps .groupState (by decide))]
    · exact keeps_of_timer (keeps_settleNotices kept (outbox_eq_nil hs) (by decide) (by decide))
        (timer_of_leftBy hs hi (leftBy_settleNotices left))

end

section
/-! Lemmas about a bad frame judged in UP (R101, R102, R104, R152, R154). -/

namespace Sys2Proof.Proofs.BadFrame

open Sys2Proof.Machine Sys2Proof.Proofs.EventNotices Sys2Proof.Proofs.Offers Sys2Proof.Proofs.SoundParts
  Sys2Proof.Proofs.MembersSettle Sys2Proof.Proofs.Departures Sys2Proof.Proofs.Leaving Sys2Proof.Proofs.Weighing

variable {s : State} {ch : Channel}

/-- The part when a bad frame has been judged at an UP port and counted, before its weight. -/
def badHeard (s : State) (ch : Channel) : State := (s.reopenFrame ch).count ch .framesBad

/-- The same with the frame weighed, before the bad run moves. -/
def badWeighed (s : State) (ch : Channel) : State := (badHeard s ch).weighAndExclude ch (2 : Nat)

theorem badFrame_of_up (hpin : s.resetPin = .high) (hup : (s.ports.get ch).line = .up) :
    exec (.badFrame ch) s = .next (State.settleNotices (
      if (s.ports.get ch).badRun + 1 < 4 then
        (badWeighed s ch).modPort ch fun p => { p with badRun := (s.ports.get ch).badRun + 1 }
      else (badWeighed s ch).leaveUp ch .hunt)) := by
  have line : ((s.reopenFrame ch).ports.get ch).line = .up := by simp [hup]
  have run : ((badWeighed s ch).ports.get ch).badRun = (s.ports.get ch).badRun := by
    rw [badWeighed, weighAndExclude_ports]
    simp [badHeard]
  simp only [exec, execBadFrame, State.receiving, hpin, hup, State.judgedBad, line, State.badInUp]
  rw [show ((s.reopenFrame ch).count ch .framesBad).weighAndExclude ch 2 = badWeighed s ch from rfl, run]
  rfl

theorem badHeard_keeps : s.keepsAllBut (badHeard s ch) [.standing, .ports, .outbox] :=
  ((s.modPort_keeps ch _).mono (by decide)).trans ((State.count_keeps _ ch _).mono (by decide))

theorem badHeard_standing : (badHeard s ch).standing = s.standing.set ch
    { s.standing.get ch with counters := (s.standing.get ch).counters.bump .framesBad } := rfl

theorem badHeard_ports : (badHeard s ch).ports =
    s.ports.set ch { s.ports.get ch with receiver := .inFrame [] s.timer.tickCount } := rfl

/-- The score of a channel after a bad frame (R101). -/
def badScore (s : State) (ch : Channel) : Nat :=
  if s.channelState ch = .probation ∨ s.channelState ch = .voting then min ((s.standing.get ch).score + 2) 255
  else (s.standing.get ch).score

theorem badScore_of_scored (hsc : (s.channelState ch).isScored = true) :
    badScore s ch = min (((badHeard s ch).standing.get ch).score + 2) 255 := by
  rw [badScore, if_pos (isScored_iff.mp hsc), badHeard_standing, PerChannel.get_set_same]

/-- A channel that is not scored, or whose score stays below exclude_level, keeps its state (R101, R102). -/
theorem badWeighed_kept (hs : Sound s)
    (h : ∀ cfg, (s.channelState ch).isScored = true → s.store.installed = some cfg →
      badScore s ch < cfg.record.excludeLevel) :
    ∃ advice, badWeighed s ch = { badHeard s ch with
        standing := s.standing.set ch
          { score := badScore s ch, counters := (s.standing.get ch).counters.bump .framesBad }
        outbox := toOne ch advice }
      ∧ ((∃ cfg, (s.channelState ch).isScored = true ∧ s.store.installed = some cfg
            ∧ advice = advisoryOf cfg.record.warnLevel (s.standing.get ch).score (badScore s ch))
          ∨ ((s.channelState ch).isScored = false ∧ advice = [])) := by
  have empty : (badHeard s ch).outbox = [] := (outbox_eq_nil hs :)
  cases hsc : (s.channelState ch).isScored with
  | false =>
    have score : badScore s ch = (s.standing.get ch).score :=
      if_neg fun hst => by rw [isScored_iff.mpr hst] at hsc; cases hsc
    refine ⟨[], ?_, .inr ⟨rfl, rfl⟩⟩
    rw [badWeighed, weighAndExclude_of_not_scored (u := badHeard s ch) hsc, toOne_nil, ← empty, score, ← badHeard_standing]
  | true =>
    obtain ⟨cfg, hi⟩ := installed_of_voter hs (isVoter_of_isScored hsc)
    refine ⟨_, ?_, .inl ⟨cfg, rfl, hi, rfl⟩⟩
    have below := h cfg hsc hi
    rw [badScore_of_scored hsc] at below ⊢
    rw [badWeighed, weighed_below (u := badHeard s ch) hi hsc below, empty, List.nil_append]
    simp only [badHeard_standing, PerChannel.get_set_same, PerChannel.set_set]

/-- A scored channel whose score reaches exclude_level is excluded in the frame's own event (R46, R104). -/
theorem badWeighed_excluded (hs : Sound s) {cfg : Configuration} (hsc : (s.channelState ch).isScored = true)
    (hi : s.store.installed = some cfg) (habove : cfg.record.excludeLevel ≤ badScore s ch) :
    s.leftBy (badWeighed s ch) ch
      ∧ (badWeighed s ch).outbox = toAll (.excluded ch .score :: s.leftNotices (badWeighed s ch) ch)
      ∧ (badWeighed s ch).members =
          s.members.set ch (excludedMember .score s.currentHoldoff (s.members.get ch))
      ∧ (badWeighed s ch).standing = s.standing.set ch (excludedStanding (badScore s ch)
          { s.standing.get ch with counters := (s.standing.get ch).counters.bump .framesBad }) := by
  have empty : (badHeard s ch).outbox = [] := (outbox_eq_nil hs :)
  rw [badScore_of_scored hsc] at habove ⊢
  obtain ⟨left, outbox, members, standing, -⟩ := weighed_above hs badHeard_keeps hi hsc habove
  rw [empty, List.nil_append] at outbox
  refine ⟨left, outbox, members, standing.trans ?_⟩
  simp only [badHeard_standing, PerChannel.get_set_same, PerChannel.set_set]

theorem badWeighed_ports : (badWeighed s ch).ports =
    s.ports.set ch { s.ports.get ch with receiver := .inFrame [] s.timer.tickCount } :=
  weighAndExclude_ports _

theorem badWeighed_keeps : s.keepsAllBut (badWeighed s ch)
    [.standing, .ports, .outbox, .timer, .members, .groupState, .window, .changes, .part] :=
  (badHeard_keeps.mono (by decide)).trans ((State.weighAndExclude_keeps _ ch _).mono (by decide))

/-! ## Below the fourth bad frame (R152) -/

/-- The part after a bad frame below the fourth, before its notices are placed. -/
def badCounted (s : State) (ch : Channel) : State :=
  (badWeighed s ch).modPort ch fun p => { p with badRun := (s.ports.get ch).badRun + 1 }

theorem badCounted_ports : (badCounted s ch).ports = s.ports.set ch
    { s.ports.get ch with
      receiver := .inFrame [] s.timer.tickCount, badRun := (s.ports.get ch).badRun + 1 } := by
  simp [badCounted, badWeighed_ports]

theorem badCounted_keeps : (badWeighed s ch).keepsAllBut (badCounted s ch) [.ports] := State.modPort_keeps _ ch _

end Sys2Proof.Proofs.BadFrame

open Sys2Proof Sys2Proof.Machine Sys2Proof.Proofs.EventNotices Sys2Proof.Proofs.Offers Sys2Proof.Proofs.SoundParts
  Sys2Proof.Proofs.Leaving Sys2Proof.Proofs.Weighing Sys2Proof.Proofs.BadFrame

/-- Settles O22: the frame is counted and weighed, which keeps the channel in its state (`badWeighed_kept`) or excludes it
(`badWeighed_excluded`), and the bad run moves. -/
theorem badFrameIsCountedAndWeighed : Obligations.BadFrameIsCountedAndWeighed := by
  unfold Obligations.BadFrameIsCountedAndWeighed
  intro s ch hpin hs hup hrun st isScored score c heard crosses
  have event := badFrame_of_up (ch := ch) hpin hup
  rw [if_pos (Nat.succ_lt_succ hrun)] at event
  have hheard : (badCounted s ch).ports = heard := badCounted_ports
  have standing : (badCounted s ch).settleNotices.standing = (badWeighed s ch).standing :=
    Eq.trans (settleNotices_standing _) (badCounted_keeps .standing (by decide))
  refine ⟨(badCounted s ch).settleNotices, event, fun hbelow => ?below, fun ⟨hscored, cfg, hi, _, habove⟩ => ?above⟩
  case below =>
    obtain ⟨advice, weighed, hadvice⟩ := badWeighed_kept (ch := ch) hs fun cfg hsc hi => by
      by_contra hnot
      exact hbelow ⟨isScored_iff.mp hsc, cfg, hi, score_lt_excludeLevel hs hi hsc, Nat.not_lt.mp hnot⟩
    have outbox : (badCounted s ch).outbox = toOne ch advice :=
      Eq.trans (badCounted_keeps .outbox (by decide)) (congrArg State.outbox weighed)
    have kept : s.keepsAllBut (badCounted s ch) [.standing, .ports, .outbox] := by
      refine State.keepsAllBut.trans ?_ (badCounted_keeps.mono (by decide))
      rw [weighed]
      exact badHeard_keeps.trans ((set_standing_outbox_keeps (badHeard s ch) _ _).mono (by decide))
    refine ⟨standing.trans (congrArg State.standing weighed), fun hcross => ?_, fun hcross => ?_,
      keeps_settleNotices kept (outbox_eq_nil hs) (by decide) (by decide)⟩
    · obtain ⟨hscored, cfg, hi, hwarn⟩ := hcross
      obtain ⟨cfg', hsc, hi', rfl⟩ | ⟨hsc, -⟩ := hadvice
      · obtain rfl : cfg = cfg' := Option.some.inj (hi.symm.trans hi')
        refine PerChannel.eq_of_get fun x => ?_
        rw [settleNotices_advised outbox (by rw [hheard, PerChannel.get_set_same]; exact hup), hheard,
          PerChannel.get_set heard ch x]
        by_cases hx : x = ch
        · rw [if_pos ⟨hx, hwarn⟩, if_pos hx, hx]
          rfl
        · rw [if_neg fun h => hx h.1, if_neg hx]
      · rw [isScored_iff.mpr hscored] at hsc
        cases hsc
    · have silent : advice = [] := by
        obtain ⟨cfg, hsc, hi, rfl⟩ | ⟨-, rfl⟩ := hadvice
        · exact if_neg fun hwarn => hcross ⟨isScored_iff.mp hsc, cfg, hi, hwarn⟩
        · rfl
      rw [silent] at outbox
      rw [State.settleNotices_of_empty _ outbox, hheard]
  case above =>
    have hsc : (s.channelState ch).isScored = true := isScored_iff.mpr hscored
    obtain ⟨left, outbox, members, weighed⟩ := badWeighed_excluded hs hsc hi habove
    have same := badCounted_keeps (s := s) (ch := ch)
    have left' : s.leftBy (badCounted s ch) ch := left
    have kept : s.keepsAllBut (badCounted s ch)
      [.standing, .members, .window, .groupState, .changes, .part, .timer, .ports, .outbox] :=
      (badWeighed_keeps.mono (by decide)).trans (same.mono (by decide))
    refine ⟨standing.trans weighed, ⟨fun x => ?_, leftBy_settleNotices left'⟩, fun x => ?_,
      keeps_settleNotices kept (outbox_eq_nil hs) (by decide) (by decide)⟩
    · rw [show (badCounted s ch).settleNotices.members = _ from State.settleNotices_keeps _ .members (by decide),
        show (badCounted s ch).members = _ from same .members (by decide), members, PerChannel.get_set]
      split
      · next hx => rw [hx]; rfl
      · rfl
    · have offers := settleNotices_toAll (s := badCounted s ch) outbox x
      rw [hheard] at offers
      rwa [leftNotices_congr (State.settleNotices_keeps (badCounted s ch) .groupState (by decide))]

end

section
/-! Lemmas about the fourth bad frame, which takes an UP line to HUNT, and the loss of the channel's link (R36, R37, R152,
R154). -/

namespace Sys2Proof.Proofs.FourthBadFrame

open Sys2Proof.Machine Sys2Proof.Proofs.EventNotices Sys2Proof.Proofs.Offers Sys2Proof.Proofs.SoundParts
  Sys2Proof.Proofs.MembersSettle Sys2Proof.Proofs.Departures Sys2Proof.Proofs.Leaving Sys2Proof.Proofs.Weighing
  Sys2Proof.Proofs.BadFrame

variable {s : State} {ch : Channel}

/-! ## The port that leaves UP (R154) -/

/-- A port in HUNT after the fourth bad frame: nothing waits and nothing is sent on. -/
def huntPort (p : Port) (now : Tick) : Port where
  line := .hunt
  receiver := .inFrame [] now
  huntRun := 0
  badRun := 0
  markSlot := none
  notices := []
  verdicts := []
  replySlot := none
  lostNotices := 0
  transmitter := (match p.transmitter with | .frame _ => .abandoned | x => x)

/-- The part when the fourth bad frame has been weighed and the port has left UP, before the Membership Table takes the
loss. -/
def hunting (s : State) (ch : Channel) : State :=
  (if ((badWeighed s ch).ports.get ch).markSlot.isSome then (badWeighed s ch).count ch .marksSkipped
    else badWeighed s ch).modPort ch fun p => { p.leaveUp with line := .hunt, huntRun := 0, badRun := 0 }

theorem leaveUp_eq : (badWeighed s ch).leaveUp ch .hunt = (hunting s ch).linkLoss ch := rfl

theorem hunting_keeps : (badWeighed s ch).keepsAllBut (hunting s ch) [.standing, .ports] := by
  refine State.keepsAllBut.trans ?_ ((State.modPort_keeps _ ch _).mono (by decide))
  split
  · exact (State.count_keeps _ ch _).mono (by decide)
  · exact .refl _ _

theorem hunting_ports : (hunting s ch).ports = s.ports.set ch (huntPort (s.ports.get ch) s.timer.tickCount) := by
  have kept : (if ((badWeighed s ch).ports.get ch).markSlot.isSome then (badWeighed s ch).count ch .marksSkipped
      else badWeighed s ch).ports = (badWeighed s ch).ports := by split <;> rfl
  rw [hunting, State.modPort_ports, kept, badWeighed_ports, PerChannel.get_set_same, PerChannel.set_set]
  rfl

/-- The counters of a channel with the mark that its port loses. -/
def skipped (p : Port) (c : Counters) : Counters :=
  { c with marksSkipped := if p.markSlot = none then c.marksSkipped else min (c.marksSkipped + 1) 65535 }

theorem hunting_standing : (hunting s ch).standing = (badWeighed s ch).standing.set ch
    { (badWeighed s ch).standing.get ch with
      counters := skipped (s.ports.get ch) ((badWeighed s ch).standing.get ch).counters } := by
  have slot : ((badWeighed s ch).ports.get ch).markSlot = (s.ports.get ch).markSlot := by
    rw [badWeighed_ports, PerChannel.get_set_same]
  rw [hunting, State.modPort_standing, slot, skipped]
  cases h : (s.ports.get ch).markSlot with
  | none => exact (PerChannel.set_get _ ch).symm
  | some f => simp [Counters.bump, saturate16]

/-! ## The Membership Table takes the loss (R36, R37) -/

/-- The entry of a channel that is DETACHED with its holdoff as it was. -/
def detachedMember (m : Member) : Member := { m with state := .detached, probationRun := 0 }

theorem linkLoss_of_voter {u : State} (h : (u.channelState ch).isVoter = true) :
    u.linkLoss ch = State.settleMembership u (u.excludeChannel .linkLost ch) := by
  unfold State.linkLoss
  cases hst : u.channelState ch with
  | candidate | probation | voting => rfl
  | detached | linked | observer | excluded => rw [hst] at h; cases h

theorem linkLoss_of_not_reaching {u : State} (hv : (u.channelState ch).isVoter = false) (hd : u.channelState ch ≠ .detached)
    (hr : u.reachesChanges ch = false) : u.linkLoss ch = u.modMember ch detachedMember := by
  unfold State.linkLoss
  cases hst : u.channelState ch with
  | candidate | probation | voting => rw [hst] at hv; cases hv
  | detached => exact absurd hst hd
  | linked =>
    have configured : u.isEmpty = false := by simpa [State.reachesChanges, hst, State.isEmpty] using hr
    exact if_neg fun h => by
      simp only [Bool.and_eq_true] at h
      exact Bool.noConfusion (configured.symm.trans h.2)
  | observer | excluded => rfl

theorem linkLoss_of_linked {u : State} (hst : u.channelState ch = .linked) (hi : u.store.installed = none) :
    u.linkLoss ch = (u.modMember ch detachedMember).depart ch fun e => e.isFound := by
  simp only [State.linkLoss, hst]
  exact if_pos (by simp [State.isEmpty, hi])

/-! ## What the fourth bad frame leaves, by what becomes of the channel -/

/-- The entry of channel `ch` when its link is lost: a voter's holdoff begins (R36, R37). -/
def lostMember (s : State) (ch : Channel) : Member :=
  { s.members.get ch with
    state := .detached
    probationRun := 0
    holdoff := if (s.channelState ch).isVoter then s.currentHoldoff else (s.members.get ch).holdoff }

/-- The standing of channel `ch` after the fourth bad frame (R101, R107). -/
def lostStanding (s : State) (ch : Channel) : Standing where
  score := badScore s ch
  counters := { skipped (s.ports.get ch) ((s.standing.get ch).counters.bump .framesBad) with
    exclusions := if (s.channelState ch).isVoter then min ((s.standing.get ch).counters.exclusions + 1) 65535
      else (s.standing.get ch).counters.exclusions }

/-- Why a voter is excluded at the fourth bad frame (R104): its score, where the frame's weight took it to exclude_level. -/
def lostBy (s : State) (ch : Channel) (reason : ExclusionReason) : Prop :=
  reason = .score ↔ (s.channelState ch).isScored = true
    ∧ ∃ cfg, s.store.installed = some cfg ∧ cfg.record.excludeLevel ≤ badScore s ch

/-- What the loss of the link leaves, before its notices are placed. -/
structure Lost (s t : State) (ch : Channel) : Prop where
  left : s.leftBy t ch
  members : t.members = s.members.set ch (lostMember s ch)
  standing : t.standing = s.standing.set ch (lostStanding s ch)
  notices : ∃ reason advice, lostBy s ch reason ∧ t.outbox =
    toOne ch advice ++ toAll ((if (s.channelState ch).isVoter then [.excluded ch reason] else []) ++ s.leftNotices t ch)

/-- The frame's weight has excluded the channel, whose link is lost from EXCLUDED. -/
theorem lost_of_excluded (hs : Sound s) {cfg : Configuration} (hsc : (s.channelState ch).isScored = true)
    (hi : s.store.installed = some cfg) (habove : cfg.record.excludeLevel ≤ badScore s ch) :
    Lost s ((hunting s ch).linkLoss ch) ch := by
  obtain ⟨left, outbox, members, standing⟩ := badWeighed_excluded hs hsc hi habove
  have voter := isVoter_of_isScored hsc
  have kept := hunting_keeps (s := s) (ch := ch)
  have members' : (hunting s ch).members = s.members.set ch (excludedMember .score s.currentHoldoff (s.members.get ch)) :=
    Eq.trans (kept .members (by decide)) members
  have excluded : (hunting s ch).channelState ch = .excluded := by
    rw [State.channelState, members', PerChannel.get_set_same]
    rfl
  have loss := linkLoss_of_not_reaching (u := hunting s ch) (ch := ch) (by rw [excluded]; rfl)
    (by rw [excluded]; exact fun h => nomatch h) (by simp [State.reachesChanges, excluded])
  have voting : ((hunting s ch).modMember ch detachedMember).votingSet = (badWeighed s ch).votingSet :=
    votingSet_congr fun x => by
      rw [State.channelState, State.channelState, State.modMember_members, members', members]
      by_cases hx : x = ch
      · subst hx
        simp [detachedMember, excludedMember]
      · simp [PerChannel.get_set, hx]
  rw [loss]
  refine ⟨leftBy_congr left (kept .window (by decide)) (kept .groupState (by decide)) (kept .store (by decide)) voting
    (kept .changes (by decide)) (kept .part (by decide)) (kept .timer (by decide)), ?_, ?_, .score, [],
    iff_of_true rfl ⟨hsc, cfg, hi, habove⟩, ?_⟩
  · rw [State.modMember_members, members', PerChannel.get_set_same, PerChannel.set_set, lostMember, if_pos voter]
    rfl
  · rw [State.modMember_standing, hunting_standing, standing, PerChannel.get_set_same, PerChannel.set_set, lostStanding,
      if_pos voter]
    rfl
  · rw [toOne_nil, List.nil_append, if_pos voter, State.modMember_outbox,
      show (hunting s ch).outbox = _ from kept .outbox (by decide), outbox]
    exact congrArg (fun l => toAll (.excluded ch .score :: l))
      (leftNotices_congr (t := (hunting s ch).modMember ch detachedMember) (t' := badWeighed s ch)
        (Eq.symm (kept .groupState (by decide))))

section Kept

variable (hs : Sound s)
  (hkept : ∀ cfg, (s.channelState ch).isScored = true → s.store.installed = some cfg →
    badScore s ch < cfg.record.excludeLevel)
include hs hkept

/-- Where the weight leaves the channel its state, the part has changed in standing, ports and outbox alone. -/
theorem hunting_of_kept : ∃ advice, (hunting s ch).outbox = toOne ch advice
    ∧ s.keepsAllBut (hunting s ch) [.standing, .ports, .outbox]
    ∧ (hunting s ch).standing = s.standing.set ch
      { score := badScore s ch, counters := skipped (s.ports.get ch) ((s.standing.get ch).counters.bump .framesBad) }
    ∧ ((s.channelState ch).isScored = false → advice = []) := by
  obtain ⟨advice, weighed, hadvice⟩ := badWeighed_kept hs hkept
  refine ⟨advice, Eq.trans (hunting_keeps .outbox (by decide)) (congrArg State.outbox weighed), ?_, ?_, fun hsc => ?_⟩
  · refine State.keepsAllBut.trans ?_ (hunting_keeps.mono (by decide))
    rw [weighed]
    exact badHeard_keeps.trans ((set_standing_outbox_keeps (badHeard s ch) _ _).mono (by decide))
  · rw [hunting_standing, congrArg State.standing weighed]
    simp only [PerChannel.get_set_same, PerChannel.set_set]
  · obtain ⟨cfg, hscored, -⟩ | ⟨-, hnone⟩ := hadvice
    · rw [hsc] at hscored
      cases hscored
    · exact hnone

omit hs in
theorem lostBy_linkLost : lostBy s ch .linkLost :=
  iff_of_false (fun h => nomatch h) fun ⟨hsc, cfg, hi, habove⟩ => Nat.not_le.mpr (hkept cfg hsc hi) habove

/-- A voter that the frame's weight does not exclude is excluded for its link (R37). -/
theorem lost_of_voter (hv : (s.channelState ch).isVoter = true) : Lost s ((hunting s ch).linkLoss ch) ch := by
  obtain ⟨advice, outbox, kept, standing, -⟩ := hunting_of_kept hs hkept
  have state : (hunting s ch).channelState ch = s.channelState ch := by
    rw [State.channelState, State.channelState, show (hunting s ch).members = s.members from kept .members (by decide)]
  have voting : (hunting s ch).votingSet = s.votingSet := votingSet_congr fun x => by
    rw [State.channelState, State.channelState, show (hunting s ch).members = s.members from kept .members (by decide)]
  obtain ⟨left, outbox', members, standing', -⟩ := exclude_settled hs kept hv voting .linkLost
  rw [linkLoss_of_voter (by rwa [state])]
  refine ⟨left, members.trans ?_, standing'.trans ?_, .linkLost, advice, lostBy_linkLost hkept, ?_⟩
  · rw [lostMember, if_pos hv]
    rfl
  · rw [standing, PerChannel.get_set_same, PerChannel.set_set, lostStanding, if_pos hv]
    rfl
  · rw [outbox', outbox, if_pos hv]
    rfl

/-- The departure of a channel in no voter state, as the Change Table takes it: only a LINKED channel's, while the group is
EMPTY (R36, R141). -/
theorem departed_of_not_voter (hv : (s.channelState ch).isVoter = false) (hd : s.channelState ch ≠ .detached) :
    ∃ f, f = (hunting s ch).modMember ch detachedMember ∧ f.outbox = []
      ∧ f.keepsAllBut ((hunting s ch).linkLoss ch) [.timer, .changes, .part, .outbox]
      ∧ s.changesNow ((hunting s ch).linkLoss ch) (if s.reachesChanges ch then s.changes.without ch else s.changes)
      ∧ ((hunting s ch).linkLoss ch).part =
          { s.part with changesVoided := ((hunting s ch).linkLoss ch).part.changesVoided }
      ∧ ((hunting s ch).linkLoss ch).outbox =
          toAll (if s.reachesChanges ch then s.changes.departureNotices ch else []) := by
  obtain ⟨advice, outbox, kept, -, hadvice⟩ := hunting_of_kept hs hkept
  have notScored : (s.channelState ch).isScored = false := by
    rw [Bool.eq_false_iff]
    exact fun h => Bool.noConfusion (hv.symm.trans (isVoter_of_isScored h))
  have empty : (hunting s ch).outbox = [] := by rw [outbox, hadvice notScored, toOne_nil]
  have state : (hunting s ch).channelState ch = s.channelState ch := by
    rw [State.channelState, State.channelState, show (hunting s ch).members = s.members from kept .members (by decide)]
  have changes : (hunting s ch).changes = s.changes := kept .changes (by decide)
  have part : (hunting s ch).part = s.part := kept .part (by decide)
  have timer : (hunting s ch).timer = s.timer := kept .timer (by decide)
  have store : (hunting s ch).store = s.store := kept .store (by decide)
  refine ⟨_, rfl, empty, ?_⟩
  cases hr : s.reachesChanges ch with
  | false =>
    have loss := linkLoss_of_not_reaching (u := hunting s ch) (ch := ch) (by rwa [state]) (by rwa [state])
      (by rwa [State.reachesChanges, state, store])
    rw [loss]
    exact ⟨.refl _ _, changesNow_of_same hs changes part timer, by rw [State.modMember_part, part], empty⟩
  | true =>
    have reached : s.channelState ch = .linked ∧ s.store.installed = none := by
      have notVoting : s.channelState ch ≠ .voting := fun h => by rw [h] at hv; cases hv
      simpa [State.reachesChanges, notVoting] using hr
    have loss := linkLoss_of_linked (u := hunting s ch) (state.trans reached.1) (by rw [store, reached.2])
    obtain ⟨-, tickets, -⟩ := FoundingExpiry.changes_parts hs
    have table : ((hunting s ch).modMember ch detachedMember).changes = s.changes := changes
    have depart := depart_eq (s := (hunting s ch).modMember ch detachedMember) ch (reached := fun e => e.isFound)
      (by rwa [table]) fun e he _ => by
        rw [table] at he
        rw [isFound_eq hs he, reached.2]
        rfl
    rw [table] at depart
    refine ⟨?_, ?_, ?_, ?_⟩
    · rw [loss]
      exact State.depart_keeps _ ch _
    · rw [loss, depart]
      exact changesNow_afterDeparture ch hs table part timer
    · rw [loss, depart]
      simp only [afterDeparture, State.modMember_part, part]
    · rw [loss, depart]
      simp only [afterDeparture, State.modMember_outbox, empty, List.nil_append]
      rfl

/-- A channel in no voter state goes to DETACHED with its holdoff as it is. -/
theorem lost_of_not_voter (hv : (s.channelState ch).isVoter = false) (hd : s.channelState ch ≠ .detached) :
    Lost s ((hunting s ch).linkLoss ch) ch := by
  obtain ⟨f, hf, -, after, changesNow, part, outbox⟩ := departed_of_not_voter hs hkept hv hd
  obtain ⟨-, -, kept, standing, -⟩ := hunting_of_kept hs hkept
  have members : f.members = s.members.set ch (lostMember s ch) := by
    rw [hf, State.modMember_members, show (hunting s ch).members = s.members from kept .members (by decide), lostMember, hv]
    rfl
  have keptF : s.keepsAllBut f [.members, .standing, .ports, .outbox] := by
    rw [hf]
    exact (kept.mono (by decide)).trans ((State.modMember_keeps _ ch _).mono (by decide))
  generalize (hunting s ch).linkLoss ch = t at after changesNow part outbox
  have membersT : t.members = s.members.set ch (lostMember s ch) := Eq.trans (after .members (by decide)) members
  have voting : t.votingSet = s.votingSet := votingSet_congr fun x => by
    rw [State.channelState, State.channelState, membersT]
    by_cases hx : x = ch
    · subst hx
      have notVoting : (s.members.get x).state ≠ .voting := fun h => by
        rw [State.channelState, h] at hv
        cases hv
      simp [lostMember, notVoting]
    · rw [PerChannel.get_set_other _ hx]
  have group : t.groupState = s.groupState := Eq.trans (after .groupState (by decide)) (keptF .groupState (by decide))
  refine ⟨leftBy_of_not_voter hs hv (Eq.trans (after .store (by decide)) (keptF .store (by decide)))
    (Eq.trans (after .window (by decide)) (keptF .window (by decide))) group voting changesNow part, membersT, ?_, .linkLost,
    [], lostBy_linkLost hkept, ?_⟩
  · rw [show t.standing = f.standing from after .standing (by decide), hf, State.modMember_standing, standing, lostStanding, hv]
    rfl
  · rw [outbox, hv, State.leftNotices, State.groupNotice, if_pos group]
    simp

end Kept

theorem lost (hs : Sound s) (hup : (s.ports.get ch).line = .up) : Lost s ((hunting s ch).linkLoss ch) ch := by
  have hd : s.channelState ch ≠ .detached := fun h => (detached_iff hs ch).mp h hup
  by_cases habove : (s.channelState ch).isScored = true
      ∧ ∃ cfg, s.store.installed = some cfg ∧ cfg.record.excludeLevel ≤ badScore s ch
  · obtain ⟨hsc, cfg, hi, habove⟩ := habove
    exact lost_of_excluded hs hsc hi habove
  · have hkept : ∀ cfg, (s.channelState ch).isScored = true → s.store.installed = some cfg →
        badScore s ch < cfg.record.excludeLevel := fun cfg hsc hi =>
      Nat.not_le.mp fun h => habove ⟨hsc, cfg, hi, h⟩
    cases hv : (s.channelState ch).isVoter with
    | true => exact lost_of_voter hs hkept hv
    | false => exact lost_of_not_voter hs hkept hv hd

theorem linkLoss_ports : ((hunting s ch).linkLoss ch).ports =
    s.ports.set ch (huntPort (s.ports.get ch) s.timer.tickCount) :=
  Eq.trans (State.linkLoss_keeps _ ch .ports (by decide)) hunting_ports

theorem linkLoss_hunting_keeps : s.keepsAllBut ((hunting s ch).linkLoss ch)
    [.ports, .members, .standing, .window, .groupState, .changes, .timer, .part, .outbox] :=
  (badWeighed_keeps.mono (by decide)).trans <| (hunting_keeps.mono (by decide)).trans
    ((State.linkLoss_keeps _ ch).mono (by decide))

end Sys2Proof.Proofs.FourthBadFrame

open Sys2Proof Sys2Proof.Machine Sys2Proof.Proofs.EventNotices Sys2Proof.Proofs.Offers Sys2Proof.Proofs.SoundParts
  Sys2Proof.Proofs.Leaving Sys2Proof.Proofs.Weighing Sys2Proof.Proofs.BadFrame Sys2Proof.Proofs.FourthBadFrame

/-- Settles O23: the port leaves UP (`linkLoss_ports`), and the Membership Table takes the loss from the state that the
frame's weight has left (`lost`). -/
theorem fourthBadFrameTakesLineToHunt : Obligations.FourthBadFrameTakesLineToHunt := by
  unfold Obligations.FourthBadFrameTakesLineToHunt
  intro s ch hpin hs hup hrun c m isVoter isScored score
  have event := badFrame_of_up (ch := ch) hpin hup
  rw [if_neg (Nat.not_lt.mpr (Nat.succ_le_succ hrun)), leaveUp_eq] at event
  obtain ⟨left, members, standing, reason, advice, hreason, outbox⟩ := lost hs hup
  have ports := linkLoss_ports (s := s) (ch := ch)
  have kept := linkLoss_hunting_keeps (s := s) (ch := ch)
  generalize (hunting s ch).linkLoss ch = t at event left members standing outbox ports kept
  have members' : t.settleNotices.members = s.members.set ch (lostMember s ch) :=
    Eq.trans (t.settleNotices_keeps .members (by decide)) members
  have standing' : t.settleNotices.standing = s.standing.set ch (lostStanding s ch) :=
    Eq.trans (settleNotices_standing t) standing
  have voter : (s.channelState ch).isVoter = true ↔ isVoter := isVoter_iff
  refine ⟨t.settleNotices, event, ?_, ?_, ?_, ?_, fun x hx => ⟨?_, ?_⟩, ⟨reason, ?_, fun x hx => ?_⟩,
    leftBy_settleNotices left, keeps_settleNotices kept (outbox_eq_nil hs) (by decide) (by decide)⟩
  · obtain ⟨draw, hport⟩ := t.settleNotices_port ch
    rw [hport, if_neg (by simp [State.isUp, ports, huntPort]), ports, PerChannel.get_set_same]
    rfl
  · rw [members', PerChannel.get_set_same, lostMember]
    simp only [voter]
    rfl
  · rw [standing', PerChannel.get_set_same, lostStanding]
    simp only [voter]
    rfl
  · rw [standing', PerChannel.get_set_same]
    rfl
  · rw [members', PerChannel.get_set_other _ hx]
  · rw [standing', PerChannel.get_set_other _ hx]
  · rw [lostBy, isScored_iff] at hreason
    exact hreason
  · have stages : ∀ o ∈ t.outbox, o.stage = 0 := fun o ho => by
      rw [outbox, List.mem_append] at ho
      exact ho.elim stage_of_mem_toOne stage_of_mem_toAll
    have offers := t.settleNotices_offeredAll x stages
    rw [outbox, noticesFor_append, noticesFor_toOne, if_neg hx, noticesFor_toAll, List.nil_append, ports,
      PerChannel.get_set_other _ hx] at offers
    rw [leftNotices_congr (t.settleNotices_keeps .groupState (by decide))]
    simp only [voter] at offers
    exact offers

end

section
/-! Lemmas that tie the Evaluator's parts, votes and channel results to the words in which Safety.lean says what a close decides
(R75, R83, R92 to R96). -/

namespace Sys2Proof.Proofs.CloseDecides

open Sys2Proof.Machine

/-! ## The parts of a close (R75, R83) -/

section Parts

variable (s : State) (r : Round) (ch : Channel)

theorem partsAtClose_get : (s.partsAtClose r).get ch = partOf r (s.channelState ch) ch (s.entryIn r ch) :=
  PerChannel.get_build _ _

/-- The part of a VOTING channel: counted, or an onlooker. -/
theorem partOf_of_voting (h : s.channelState ch = .voting) :
    (s.partsAtClose r).get ch = if s.counts r ch then .counted (s.entryIn r ch) else .onlooker := by
  rw [partsAtClose_get, h, State.counts, h, partOf]
  cases r.sealedBy <;> rfl

theorem counts_eq_false (h : s.channelState ch ≠ .voting) : s.counts r ch = false := by simp [State.counts, h]

theorem isCounted_eq : ((s.partsAtClose r).get ch).isCounted = s.counts r ch := by
  by_cases h : s.channelState ch = .voting
  · rw [partOf_of_voting s r ch h]
    cases s.counts r ch <;> rfl
  · rw [counts_eq_false s r ch h, partsAtClose_get]
    cases hst : s.channelState ch <;> first | rfl | exact absurd hst h

theorem countedEntry_eq : ((s.partsAtClose r).get ch).countedEntry = if s.counts r ch then s.entryIn r ch else none := by
  by_cases h : s.channelState ch = .voting
  · rw [partOf_of_voting s r ch h]
    cases s.counts r ch <;> rfl
  · rw [counts_eq_false s r ch h, partsAtClose_get]
    cases hst : s.channelState ch <;> first | rfl | exact absurd hst h

theorem countedSize_eq : countedSize (s.partsAtClose r) = (Channel.all.filter (s.counts r)).length :=
  congrArg List.length (List.filter_congr fun ch _ => isCounted_eq s r ch)

theorem valueList_eq (i : Nat) : valueList (s.partsAtClose r) i = s.valuesIn r i := by
  rw [valueList, State.valuesIn, List.filterMap_filter]
  refine List.filterMap_congr fun ch _ => ?_
  rw [countedEntry_eq]
  cases s.counts r ch <;> rfl

end Parts

/-! ## The votes (R84, R85, R87) -/

theorem votesFrom_getElem? (quorum : Nat) (parts : PerChannel Part) (i : Nat) (schema : List SchemaItem) (j : Nat) :
    (votesFrom quorum parts i schema)[j]? = schema[j]?.map fun item =>
      ⟨item, if countedSize parts < quorum then none else item.vote quorum (valueList parts (i + j))⟩ := by
  induction schema generalizing i j with
  | nil => rfl
  | cons item rest ih =>
    cases j with
    | zero => rfl
    | succ j =>
      rw [votesFrom, List.getElem?_cons_succ, List.getElem?_cons_succ, ih, Nat.add_right_comm, Nat.add_assoc]

theorem votesFrom_length (quorum : Nat) (parts : PerChannel Part) (i : Nat) (schema : List SchemaItem) :
    (votesFrom quorum parts i schema).length = schema.length := by
  induction schema generalizing i with
  | nil => rfl
  | cons item rest ih => rw [votesFrom, List.length_cons, List.length_cons, ih]

/-- The votes of the close of round `r` under configuration `cfg`. -/
def votesAt (s : State) (r : Round) (cfg : Configuration) : List ItemVote :=
  votesFrom cfg.record.itemQuorum (s.partsAtClose r) 0 cfg.schema

section Votes

variable (s : State) (r : Round) (cfg : Configuration) (ch : Channel)

theorem votesAt_length : (votesAt s r cfg).length = cfg.schema.length := votesFrom_length _ _ _ _

theorem votesAt_getElem? (i : Nat) :
    (votesAt s r cfg)[i]? = cfg.schema[i]?.map fun item => ⟨item, s.decidedIn r cfg i⟩ := by
  rw [votesAt, votesFrom_getElem?, countedSize_eq, Nat.zero_add, valueList_eq, State.decidedIn]
  cases h : cfg.schema[i]? <;> rfl

/-- Item `i` is one on which the entry gave a value outside the agreeing set. -/
def dissentsOn (votes : List ItemVote) (e : QueueEntry) (i : Nat) : Bool :=
  match votes[i]?, e.valueAt i with
  | some ⟨item, some decided⟩, some v => !item.agrees decided v
  | _, _ => false

/-- The entry abstains on the accepted item `i`. -/
def abstainsOn (votes : List ItemVote) (e : QueueEntry) (i : Nat) : Bool :=
  match votes[i]? with
  | some v => v.decided.isSome && (e.valueAt i).isNone
  | none => false

theorem dissentFrom_eq (votes : List ItemVote) (e : QueueEntry) (rest : List ItemVote) (i : Nat)
    (h : ∀ j, votes[i + j]? = rest[j]?) :
    dissentFrom e i rest = (List.range' i rest.length).filter (dissentsOn votes e) := by
  induction rest generalizing i with
  | nil => rfl
  | cons v rest ih =>
    have first : votes[i]? = some v := h 0
    have later := ih (i + 1) fun j => by
      rw [Nat.add_right_comm, Nat.add_assoc]
      exact h (j + 1)
    obtain ⟨item, decided⟩ := v
    rw [dissentFrom, List.length_cons, List.range'_succ, List.filter_cons, dissentsOn, first, later]
    cases decided with
    | none => simp
    | some d =>
      cases e.valueAt i with
      | none => simp
      | some x => cases h : item.agrees d x <;> simp [h]

theorem abstainsFrom_eq (votes : List ItemVote) (e : QueueEntry) (rest : List ItemVote) (i : Nat)
    (h : ∀ j, votes[i + j]? = rest[j]?) :
    abstainsFrom e i rest = (List.range' i rest.length).any (abstainsOn votes e) := by
  induction rest generalizing i with
  | nil => rfl
  | cons v rest ih =>
    have first : votes[i]? = some v := h 0
    have later := ih (i + 1) fun j => by
      rw [Nat.add_right_comm, Nat.add_assoc]
      exact h (j + 1)
    rw [abstainsFrom, List.length_cons, List.range'_succ, List.any_cons, abstainsOn, first, later]

variable {s r cfg ch}

theorem valueAt_eq {e : QueueEntry} (he : s.entryIn r ch = some e) (i : Nat) : e.valueAt i = s.valueIn r ch i := by
  rw [State.valueIn, he]
  rfl

/-- The dissent list of a channel with an entry (R92). -/
theorem dissentFrom_votesAt {e : QueueEntry} (he : s.entryIn r ch = some e) :
    dissentFrom e 0 (votesAt s r cfg) = s.dissentIn r cfg ch := by
  rw [dissentFrom_eq (votesAt s r cfg) e _ 0 fun j => by rw [Nat.zero_add], votesAt_length, State.dissentIn,
    List.range_eq_range']
  refine List.filter_congr fun i _ => ?_
  rw [dissentsOn, votesAt_getElem?, valueAt_eq he]
  cases cfg.schema[i]? with
  | none => rfl
  | some item => cases s.decidedIn r cfg i <;> cases s.valueIn r ch i <;> rfl

theorem dissentIn_of_no_entry (he : s.entryIn r ch = none) : s.dissentIn r cfg ch = [] := by
  rw [State.dissentIn, List.filter_eq_nil_iff]
  intro i _
  rw [State.valueIn, he]
  cases cfg.schema[i]? <;> cases s.decidedIn r cfg i <;> exact Bool.false_ne_true

theorem dissentList_votesAt : dissentList (votesAt s r cfg) (s.entryIn r ch) = s.dissentIn r cfg ch := by
  cases he : s.entryIn r ch with
  | none => exact (dissentIn_of_no_entry he).symm
  | some e => exact dissentFrom_votesAt he

/-- A channel with an entry abstains on an accepted item (R93). -/
theorem abstainsFrom_votesAt {e : QueueEntry} (he : s.entryIn r ch = some e) :
    abstainsFrom e 0 (votesAt s r cfg) = s.abstainsIn r cfg ch := by
  rw [abstainsFrom_eq (votesAt s r cfg) e _ 0 fun j => by rw [Nat.zero_add], votesAt_length, State.abstainsIn,
    List.range_eq_range', Bool.eq_iff_iff, List.any_eq_true, List.any_eq_true]
  refine exists_congr fun i => and_congr_right fun hi => ?_
  have item : ∃ item, cfg.schema[i]? = some item := by
    rw [← List.range_eq_range', List.mem_range] at hi
    exact ⟨_, List.getElem?_eq_getElem hi⟩
  obtain ⟨item, hitem⟩ := item
  rw [abstainsOn, votesAt_getElem?, valueAt_eq he, hitem]
  rfl

/-- In a VOID round no item is decided (R90). -/
theorem decided_of_void {votes : List ItemVote} (h : roundOutcome votes = .void) {v : ItemVote} (hv : v ∈ votes) :
    v.decided = none := by
  unfold roundOutcome at h
  split at h
  · cases h
  · split at h
    · cases h
    · next _ none =>
      simp only [List.any_eq_true, not_exists, not_and] at none
      simpa using none v hv

theorem dissentFrom_of_void {votes : List ItemVote} (h : roundOutcome votes = .void) (e : QueueEntry) :
    dissentFrom e 0 votes = [] := by
  rw [dissentFrom_eq votes e _ 0 fun j => by rw [Nat.zero_add], List.filter_eq_nil_iff]
  intro i _
  rw [dissentsOn]
  cases hv : votes[i]? with
  | none => exact Bool.false_ne_true
  | some v =>
    obtain ⟨item, decided⟩ := v
    obtain rfl : decided = none := decided_of_void h (List.mem_of_getElem? hv)
    exact Bool.false_ne_true

theorem abstainsFrom_of_void {votes : List ItemVote} (h : roundOutcome votes = .void) (e : QueueEntry) :
    abstainsFrom e 0 votes = false := by
  rw [abstainsFrom_eq votes e _ 0 fun j => by rw [Nat.zero_add], List.any_eq_false]
  intro i _
  rw [abstainsOn]
  cases hv : votes[i]? with
  | none => exact Bool.false_ne_true
  | some v => simp [decided_of_void h (List.mem_of_getElem? hv)]

end Votes

/-! ## The standing class of a channel (R93) -/

/-- The standing class that the close of round `r` gives channel `ch`. -/
def classIn (s : State) (r : Round) (cfg : Configuration) (ch : Channel) : StandingClass :=
  standingClass (votesAt s r cfg) (s.entryIn r ch)

section Classes

variable {s : State} {r : Round} {cfg : Configuration} {ch : Channel}

theorem classIn_of_no_entry (he : s.entryIn r ch = none) : classIn s r cfg ch = .missing := by rw [classIn, he]; rfl

theorem classIn_of_entry {e : QueueEntry} (he : s.entryIn r ch = some e) : classIn s r cfg ch =
    if s.dissentIn r cfg ch ≠ [] then .dissent
    else if s.abstainsIn r cfg ch then .abstain
    else if roundOutcome (votesAt s r cfg) ≠ .void then .agreed
    else .neutral := by
  rw [classIn, he, standingClass]
  simp only [dissentFrom_votesAt he, abstainsFrom_votesAt he]

theorem classIn_of_void {e : QueueEntry} (he : s.entryIn r ch = some e) (hvoid : roundOutcome (votesAt s r cfg) = .void) :
    classIn s r cfg ch = .neutral := by
  rw [classIn, he, standingClass]
  simp [dissentFrom_of_void hvoid, abstainsFrom_of_void hvoid, hvoid]

/-- The own status of a probationer follows its class (R94). -/
theorem shadowStatus_classIn (hst : s.channelState ch = .probation) :
    shadowStatus (roundOutcome (votesAt s r cfg)) (classIn s r cfg ch) = s.ownStatusIn r cfg ch := by
  have notCounted : s.counts r ch = false := counts_eq_false s r ch (by rw [hst]; exact fun h => nomatch h)
  rw [State.ownStatusIn, notCounted, if_neg Bool.false_ne_true, if_pos hst]
  cases he : s.entryIn r ch with
  | none => rw [classIn_of_no_entry he]; rfl
  | some e =>
    by_cases hvoid : roundOutcome (votesAt s r cfg) = .void
    · rw [classIn_of_void he hvoid, ← dissentFrom_votesAt he, dissentFrom_of_void hvoid, ← abstainsFrom_votesAt he,
        abstainsFrom_of_void hvoid]
      rfl
    · rw [classIn_of_entry he]
      by_cases hd : s.dissentIn r cfg ch = []
      · cases ha : s.abstainsIn r cfg ch <;> simp [hd, hvoid, shadowStatus]
      · simp [hd, hvoid, shadowStatus]

/-! ## The result of a channel (R95, R96) -/

/-- What the close of round `r` gives channel `ch`, in the words of Safety.lean. -/
theorem channelResult_eq : channelResult (votesAt s r cfg) ((s.partsAtClose r).get ch) =
    if (s.channelState ch).receivesVerdict then
      some
        { ownStatus := s.ownStatusIn r cfg ch
          dissent := if s.judges r ch then s.dissentIn r cfg ch else []
          standing := if s.judges r ch then some (classIn s r cfg ch) else none
          probation := if s.channelState ch = .probation then
              some (probationResult (roundOutcome (votesAt s r cfg)) (classIn s r cfg ch))
            else none }
    else none := by
  cases hst : s.channelState ch with
  | voting =>
    rw [partOf_of_voting s r ch hst, State.ownStatusIn, State.judges]
    cases hc : s.counts r ch <;> simp [channelResult, hst, ChannelState.receivesVerdict, dissentList_votesAt, classIn]
  | probation =>
    have notCounted : s.counts r ch = false := counts_eq_false s r ch (by rw [hst]; exact fun h => nomatch h)
    have status := shadowStatus_classIn (r := r) (cfg := cfg) hst
    rw [partsAtClose_get, State.judges, notCounted, hst, partOf, channelResult, dissentList_votesAt, ← status]
    rfl
  | observer =>
    have notCounted : s.counts r ch = false := counts_eq_false s r ch (by rw [hst]; exact fun h => nomatch h)
    rw [partsAtClose_get, State.judges, State.ownStatusIn, notCounted, hst]
    rfl
  | detached | linked | candidate | excluded =>
    rw [partsAtClose_get, hst]
    rfl

theorem isScored_of_judges (h : s.judges r ch = true) : (s.channelState ch).isScored = true := by
  simp only [State.judges, State.counts, Bool.or_eq_true, Bool.and_eq_true, beq_iff_eq] at h
  rcases h with ⟨h, -⟩ | h <;> rw [h] <;> rfl

end Classes

end Sys2Proof.Proofs.CloseDecides
end

section
/-! Lemmas about the steps of a close: the weights, the VERDICTs, the exclusions and the probation moves, each as a fold over the
channels (R98, R103, R125). -/

namespace Sys2Proof.Proofs.CloseSteps

open Sys2Proof.Machine Sys2Proof.Proofs.Offers Sys2Proof.Proofs.MembersSettle Sys2Proof.Proofs.Departures
  Sys2Proof.Proofs.Leaving Sys2Proof.Proofs.EachChannel

/-! ## The weights (R101 to R103) -/

/-- The standing of a scored channel after the weight of its class. -/
def weighedStanding (c : Option StandingClass) (st : Standing) : Standing :=
  match c.bind (·.weight) with
  | some (w, name) => { score := weighted st.score w, counters := st.counters.bump name }
  | none => st

/-- ADVISORY for the scores before and after a weight (R102). -/
def adviceOf (r : GroupRecord) (before after : Nat) : List Notice :=
  if before < r.warnLevel ∧ r.warnLevel ≤ after ∧ after < r.excludeLevel then [.advisory after] else []

theorem adviceOf_same (r : GroupRecord) (score : Nat) : adviceOf r score score = [] :=
  if_neg fun h => absurd (h.1.trans_le h.2.1) (lt_irrefl _)

/-- The class claims the exclusion of a channel that it weighs (R102, R103). -/
def claims (r : GroupRecord) (c : Option StandingClass) (st : Standing) : Bool :=
  (c.bind (·.weight)).isSome && r.excludeLevel ≤ (weighedStanding c st).score

/-- A weight at a scored channel of a group: the score, the notice and the claim. -/
theorem weigh_eq {s : State} {ch : Channel} {cfg : Configuration} (w : Int) (hi : s.store.installed = some cfg)
    (hsc : (s.channelState ch).isScored = true) :
    s.weigh ch w =
      ({ s with
          standing := s.standing.set ch { s.standing.get ch with score := weighted (s.standing.get ch).score w }
          outbox := s.outbox ++ toOne ch
            (adviceOf cfg.record (s.standing.get ch).score (weighted (s.standing.get ch).score w)) },
        decide (cfg.record.excludeLevel ≤ weighted (s.standing.get ch).score w)) := by
  unfold State.weigh
  simp only [hsc, if_true, hi, State.modStanding_store, scoreEffect, adviceOf]
  by_cases he : cfg.record.excludeLevel ≤ weighted (s.standing.get ch).score w
  · simp [he, Nat.not_lt.mpr he]
    rfl
  · by_cases hw : (s.standing.get ch).score < cfg.record.warnLevel
        ∧ cfg.record.warnLevel ≤ weighted (s.standing.get ch).score w
    · simp [he, hw, Nat.not_le.mp he]
      rfl
    · have quiet : ¬ ((s.standing.get ch).score < cfg.record.warnLevel
          ∧ cfg.record.warnLevel ≤ weighted (s.standing.get ch).score w
          ∧ weighted (s.standing.get ch).score w < cfg.record.excludeLevel) := fun h => hw ⟨h.1, h.2.1⟩
      simp [he, hw, quiet]
      rfl

theorem flatMap_ite_singleton {α : Type} (p : α → Bool) (l : List α) :
    (l.flatMap fun x => if p x then [x] else []) = l.filter p := by
  induction l with
  | nil => rfl
  | cons x l ih => cases h : p x <;> simp [h, ih]

section Weights

variable {s : State} {cfg : Configuration} {res : PerChannel (Option ChannelResult)}
  (hi : s.store.installed = some cfg)
  (hsc : ∀ ch, ((res.get ch).bind (·.standing)).isSome = true → (s.channelState ch).isScored = true)
include hi hsc

/-- One channel's weight at a close, in a state where no more than standing and outbox have changed. -/
theorem weighClass_eq {acc : State × List Channel} (hk : s.keepsAllBut acc.1 [.standing, .outbox]) (ch : Channel) :
    let c := (res.get ch).bind (·.standing)
    let st := acc.1.standing.get ch
    weighClass res acc ch =
      ({ acc.1 with
          standing := acc.1.standing.set ch (weighedStanding c st)
          outbox := acc.1.outbox ++ toOne ch (adviceOf cfg.record st.score (weighedStanding c st).score) },
        acc.2 ++ if claims cfg.record c st then [ch] else []) := by
  intro c st
  have unweighed : c.bind (·.weight) = none → weighClass res acc ch =
      ({ acc.1 with
          standing := acc.1.standing.set ch (weighedStanding c st)
          outbox := acc.1.outbox ++ toOne ch (adviceOf cfg.record st.score (weighedStanding c st).score) },
        acc.2 ++ if claims cfg.record c st then [ch] else []) := fun hc => by
    have same : weighedStanding c st = st := by rw [weighedStanding, hc]
    have noClaim : claims cfg.record c st = false := by rw [claims, hc]; rfl
    rw [same, noClaim, adviceOf_same, PerChannel.set_get]
    simp only [weighClass, c] at hc ⊢
    simp [hc]
  cases hw : c.bind (·.weight) with
  | none => exact unweighed hw
  | some pair =>
    obtain ⟨w, name⟩ := pair
    have scored : (acc.1.channelState ch).isScored = true := by
      rw [State.channelState, show acc.1.members = s.members from hk .members (by decide)]
      refine hsc ch ?_
      cases hc : (res.get ch).bind (·.standing) with
      | none => simp only [c, hc] at hw; cases hw
      | some cls => rfl
    have weigh := weigh_eq (s := acc.1.count ch name) (ch := ch) w
      (by rw [State.count_store, show acc.1.store = s.store from hk .store (by decide), hi]) scored
    have counted : (acc.1.count ch name).standing.get ch = { st with counters := st.counters.bump name } := by
      rw [State.count_standing, PerChannel.get_set_same]
    have standing : weighedStanding c st = { score := weighted st.score w, counters := st.counters.bump name } := by
      rw [weighedStanding, hw]
    rw [counted, State.count_standing, PerChannel.set_set] at weigh
    simp only [weighClass, show ((res.get ch).bind (·.standing)).bind (·.weight) = some (w, name) from hw, weigh, standing,
      claims, hw, Option.isSome_some, Bool.true_and]
    cases decide (cfg.record.excludeLevel ≤ weighted st.score w) <;> simp [State.count, State.modStanding]

/-- All the weights of a close: each judged channel's standing, the notices, and the channels claimed, in letter order. -/
theorem weighClose_spec :
    (∀ x, (s.weighClose res).1.standing.get x = weighedStanding ((res.get x).bind (·.standing)) (s.standing.get x))
      ∧ (s.weighClose res).1.outbox = s.outbox ++ (Channel.all.flatMap fun x => toOne x
        (adviceOf cfg.record (s.standing.get x).score
          (weighedStanding ((res.get x).bind (·.standing)) (s.standing.get x)).score))
      ∧ (s.weighClose res).2 =
        Channel.all.filter fun x => claims cfg.record ((res.get x).bind (·.standing)) (s.standing.get x) := by
  have keeps : ∀ (acc : State × List Channel) ch, s.keepsAllBut acc.1 [.standing, .outbox] →
      s.keepsAllBut (weighClass res acc ch).1 [.standing, .outbox] := fun acc ch hk => hk.trans (weighClass_keeps res acc ch)
  have step : ∀ (acc : State × List Channel) ch x, s.keepsAllBut acc.1 [.standing, .outbox] →
      (weighClass res acc ch).1.standing.get x =
        if x = ch then weighedStanding ((res.get ch).bind (·.standing)) (acc.1.standing.get ch)
        else acc.1.standing.get x := fun acc ch x hk => by
    rw [weighClass_eq hi hsc hk, PerChannel.get_set]
  have start : s.keepsAllBut (s, ([] : List Channel)).1 [.standing, .outbox] := .refl _ _
  refine ⟨fun x => ?_, ?_, ?_⟩
  · have own := foldl_own (own := fun (acc : State × List Channel) x => acc.1.standing.get x)
      (g := fun ch => weighedStanding ((res.get ch).bind (·.standing))) keeps step nodup_all start x
    rwa [if_pos x.mem_all] at own
  · exact foldl_out (own := fun (acc : State × List Channel) x => acc.1.standing.get x)
      (g := fun ch => weighedStanding ((res.get ch).bind (·.standing))) (out := fun acc => acc.1.outbox)
      (o := fun ch st => toOne ch
        (adviceOf cfg.record st.score (weighedStanding ((res.get ch).bind (·.standing)) st).score)) keeps step
      (fun acc ch hk => by rw [weighClass_eq hi hsc hk]) nodup_all start
  · have claimed := foldl_out (own := fun (acc : State × List Channel) x => acc.1.standing.get x)
      (g := fun ch => weighedStanding ((res.get ch).bind (·.standing))) (out := fun acc => acc.2)
      (o := fun ch st => if claims cfg.record ((res.get ch).bind (·.standing)) st then [ch] else []) keeps step
      (fun acc ch hk => by rw [weighClass_eq hi hsc hk]) nodup_all start
    refine claimed.trans ?_
    rw [List.nil_append, flatMap_ite_singleton]

end Weights

/-! ## The VERDICTs (R124, R125) -/

/-- A VERDICT joined to those that wait, the oldest of four giving way (R125). -/
def joined (v : Verdict) (l : List Verdict) : List Verdict := (if l.length < 4 then l else l.tail) ++ [v]

/-- The VERDICT of a channel with this result and score (R124). -/
def verdictOf (res : RoundResult) (items : List ItemResult) (out : OutputState) (r : ChannelResult) (score : Nat) :
    Verdict where
  cycle := res.cycle
  epoch := res.epoch
  outcome := res.outcome
  cause := res.cause
  outputState := out
  items := items
  ownStatus := r.ownStatus
  dissent := r.dissent
  score := score

/-- A port and its channel's standing when the close's VERDICT has been offered. -/
def withVerdict (res : RoundResult) (items : List ItemResult) (out : OutputState) (ch : Channel) (x : Port × Standing) :
    Port × Standing :=
  match res.channels.get ch with
  | some r =>
    if x.1.line = .up then
      ({ x.1 with verdicts := joined (verdictOf res items out r x.2.score) x.1.verdicts },
        if x.1.verdicts.length < 4 then x.2 else { x.2 with counters := x.2.counters.bump .verdictsDropped })
    else x
  | none => x

theorem offerVerdict_own (s : State) (ch x : Channel) (v : Verdict) :
    ((s.offerVerdict ch v).ports.get x, (s.offerVerdict ch v).standing.get x) =
      if x = ch then
        if (s.ports.get ch).line = .up then
          ({ s.ports.get ch with verdicts := joined v (s.ports.get ch).verdicts },
            if (s.ports.get ch).verdicts.length < 4 then s.standing.get ch
            else { s.standing.get ch with counters := (s.standing.get ch).counters.bump .verdictsDropped })
        else (s.ports.get ch, s.standing.get ch)
      else (s.ports.get x, s.standing.get x) := by
  unfold State.offerVerdict
  by_cases hup : (s.ports.get ch).line = .up
  · by_cases hlen : (s.ports.get ch).verdicts.length < 4
    · by_cases hx : x = ch <;> simp [State.isUp, hup, hlen, joined, PerChannel.get_set, hx]
    · by_cases hx : x = ch <;> simp [State.isUp, hup, hlen, joined, PerChannel.get_set, hx]
  · by_cases hx : x = ch <;> simp [State.isUp, hup, hx]

theorem sendVerdict_own {s : State} {res : RoundResult} {items : List ItemResult} {out : OutputState}
    (hout : s.output.state = out) (ch x : Channel) :
    ((State.sendVerdict res items s ch).ports.get x, (State.sendVerdict res items s ch).standing.get x) =
      if x = ch then withVerdict res items out ch (s.ports.get ch, s.standing.get ch)
      else (s.ports.get x, s.standing.get x) := by
  unfold State.sendVerdict withVerdict
  cases res.channels.get ch with
  | some r =>
    simp only [offerVerdict_own, hout]
    rfl
  | none =>
    by_cases hx : x = ch <;> simp [hx]

theorem queueDecision_output_state (s : State) (d : Decision) : (s.queueDecision d).output.state = s.output.state := by
  unfold State.queueDecision
  split
  · rfl
  · split <;> rfl

/-- The items that a close shows: safe values while the output is SAFE (R121). -/
def shownItems (res : RoundResult) (out : OutputState) : List ItemResult := List.zipWith (shownItem out) res.votes res.items

/-- What a close produces: the history record, and a VERDICT for each channel with a result. -/
theorem produce_spec (s : State) (res : RoundResult) :
    (s.produce res).history =
        (⟨res.cycle, res.epoch, res.cause, res.outcome, s.output.state, shownItems res s.output.state⟩ :: s.history).take 16
      ∧ (s.produce res).output.state = s.output.state
      ∧ ∀ x, ((s.produce res).ports.get x, (s.produce res).standing.get x) =
        withVerdict res (shownItems res s.output.state) s.output.state x (s.ports.get x, s.standing.get x) := by
  let recorded := (s.queueDecision ⟨res.cycle, res.epoch, s.output.state, shownItems res s.output.state⟩).writeHistory
    ⟨res.cycle, res.epoch, res.cause, res.outcome, s.output.state, shownItems res s.output.state⟩
  have decided := s.queueDecision_keeps ⟨res.cycle, res.epoch, s.output.state, shownItems res s.output.state⟩
  have kept : s.keepsAllBut recorded [.output, .part, .history] :=
    (decided.mono (by decide)).trans ((State.writeHistory_keeps _ _).mono (by decide))
  have out : recorded.output.state = s.output.state := queueDecision_output_state s _
  have produced : s.produce res =
      Channel.all.foldl (State.sendVerdict res (shownItems res s.output.state)) recorded := rfl
  have sent : recorded.keepsAllBut (s.produce res) [.ports, .standing] := by
    rw [produced]
    exact .foldl (fun s ch => State.sendVerdict_keeps s res _ ch) _ _
  refine ⟨?_, ?_, fun x => ?_⟩
  · rw [show (s.produce res).history = recorded.history from sent .history (by decide)]
    change (_ :: (s.queueDecision _).history).take 16 = _
    rw [show (State.queueDecision s _).history = s.history from decided .history (by decide)]
  · rw [show (s.produce res).output = recorded.output from sent .output (by decide), out]
  · have own := foldl_own (own := fun (s : State) x => (s.ports.get x, s.standing.get x))
      (g := withVerdict res (shownItems res s.output.state) s.output.state)
      (f := State.sendVerdict res (shownItems res s.output.state)) (inv := fun t => t.output.state = s.output.state)
      (fun t ch ht => by
        rw [show (State.sendVerdict _ _ t ch).output = t.output from State.sendVerdict_keeps t _ _ ch .output (by decide)]
        exact ht)
      (fun t ch x ht => sendVerdict_own ht ch x) nodup_all out x
    rw [if_pos x.mem_all] at own
    rw [produced, own, show recorded.ports = s.ports from kept .ports (by decide),
      show recorded.standing = s.standing from kept .standing (by decide)]

/-! ## The exclusions (R46, R98) -/

theorem excludeChannel_own {s : State} {holdoff : Nat} (hh : s.currentHoldoff = holdoff) (ch x : Channel) :
    ((s.excludeChannel .score ch).members.get x, (s.excludeChannel .score ch).standing.get x) =
      if x = ch then
        (excludedMember .score holdoff (s.members.get ch),
          { s.standing.get ch with counters := (s.standing.get ch).counters.bump .exclusions })
      else (s.members.get x, s.standing.get x) := by
  have kept := State.leaveVoters_keeps (marked s .score ch) ch (s.channelState ch)
  rw [excludeChannel_eq, show (State.leaveVoters _ _ _).members = _ from kept .members (by decide),
    show (State.leaveVoters _ _ _).standing = _ from kept .standing (by decide), marked, hh]
  by_cases hx : x = ch
  · simp [hx]
  · simp [hx, PerChannel.get_set]

/-- The channels claimed at a close, excluded one after another. -/
def excludeAll (s : State) (l : List Channel) : State := l.foldl (fun s ch => s.excludeChannel .score ch) s

theorem excludeAll_keeps (s : State) (l : List Channel) :
    s.keepsAllBut (excludeAll s l) [.timer, .members, .window, .standing, .changes, .part, .outbox] :=
  .foldl (fun s ch => s.excludeChannel_keeps .score ch) _ s

theorem excludeAll_own {s : State} {l : List Channel} (hl : l.Nodup) (x : Channel) :
    ((excludeAll s l).members.get x, (excludeAll s l).standing.get x) =
      if x ∈ l then
        (excludedMember .score s.currentHoldoff (s.members.get x),
          { s.standing.get x with counters := (s.standing.get x).counters.bump .exclusions })
      else (s.members.get x, s.standing.get x) :=
  foldl_own (own := fun (s : State) x => (s.members.get x, s.standing.get x))
    (g := fun _ y => (excludedMember .score s.currentHoldoff y.1,
      { y.2 with counters := y.2.counters.bump .exclusions }))
    (inv := fun t => t.store = s.store)
    (fun t ch ht => Eq.trans (t.excludeChannel_keeps .score ch .store (by decide)) ht)
    (fun t ch x ht => excludeChannel_own (by rw [State.currentHoldoff, State.currentHoldoff, ht]) ch x) hl rfl x

/-- An exclusion's broadcast and what its hand-offs broadcast (R46, R50, R141). -/
theorem excludeChannel_told {s : State} {ch : Channel} (hn : (s.changes.entries.map (·.ticket)).Nodup)
    (hf : ∀ e ∈ s.changes.entries, e.isFound = false) (hv : (s.channelState ch).isVoter = true) :
    (s.excludeChannel .score ch).changes =
        (if s.channelState ch = .voting then s.changes.without ch else s.changes)
      ∧ (s.excludeChannel .score ch).outbox = s.outbox ++ toAll
        (.excluded ch .score :: if s.channelState ch = .voting then s.changes.departureNotices ch else []) := by
  have table : (marked s .score ch).changes = s.changes := rfl
  have outbox : (marked s .score ch).outbox = s.outbox ++ toAll [.excluded ch .score] := rfl
  rw [excludeChannel_eq, leaveVoters_eq_of (u := marked s .score ch) hn hf hv]
  by_cases h : s.channelState ch = .voting
  · rw [if_pos h, if_pos h, if_pos h]
    exact ⟨rfl, (congrArg (· ++ _) outbox).trans (List.append_assoc ..)⟩
  · rw [if_neg h, if_neg h, if_neg h]
    exact ⟨rfl, outbox⟩

theorem not_isFound_of_mem_staying {ch : Channel} {l : List ChangeEntry} (hf : ∀ e ∈ l, e.isFound = false) :
    ∀ e ∈ staying ch l, e.isFound = false := fun e he => by
  obtain ⟨o, ho, rfl⟩ := List.mem_map.mp he
  have hfo := hf o (List.mem_filter.mp ho).1
  split
  · exact hfo
  · exact hfo

/-- The broadcasts of several exclusions of one event, in some order: each channel's EXCLUDED, and the departures of the
VOTING ones, one after another (log entry 16). -/
theorem excludeAll_told (l : List Channel) : ∀ (s : State), l.Nodup → (s.changes.entries.map (·.ticket)).Nodup →
    (∀ e ∈ s.changes.entries, e.isFound = false) → (∀ ch ∈ l, (s.channelState ch).isVoter = true) →
    ∃ told, (excludeAll s l).outbox = s.outbox ++ toAll told
      ∧ told.Perm (l.map (fun x => .excluded x .score)
        ++ s.changes.departuresOf (l.filter fun x => s.channelState x == .voting)) := by
  induction l with
  | nil => exact fun s _ _ _ _ => ⟨[], (List.append_nil _).symm, .refl _⟩
  | cons ch l ih =>
    intro s hl hn hf hv
    obtain ⟨hch, hl⟩ := List.nodup_cons.mp hl
    obtain ⟨changes, outbox⟩ := excludeChannel_told hn hf (hv ch (List.mem_cons_self ..))
    have state : ∀ x ∈ l, (s.excludeChannel .score ch).channelState x = s.channelState x := fun x hx => by
      have own := congrArg Prod.fst (excludeChannel_own (s := s) rfl ch x)
      rw [if_neg fun h : x = ch => hch (h ▸ hx)] at own
      exact congrArg Member.state own
    have tickets : ((s.excludeChannel .score ch).changes.entries.map (·.ticket)).Nodup := by
      rw [changes]
      split
      · exact hn.sublist (staying_tickets_sublist ch _)
      · exact hn
    have notFound : ∀ e ∈ (s.excludeChannel .score ch).changes.entries, e.isFound = false := by
      rw [changes]
      split
      · exact not_isFound_of_mem_staying hf
      · exact hf
    obtain ⟨told, later, perm⟩ := ih (s.excludeChannel .score ch) hl tickets notFound fun x hx => by
      rw [state x hx]
      exact hv x (List.mem_cons_of_mem _ hx)
    refine ⟨_, (later.trans (congrArg (· ++ _) outbox)).trans ((List.append_assoc ..).trans
      (congrArg (s.outbox ++ ·) (toAll_append _ _).symm)), .cons _ ?_⟩
    rw [List.filter_congr fun x hx => by rw [state x hx], changes] at perm
    by_cases h : s.channelState ch = .voting
    · rw [if_pos h] at perm
      rw [if_pos h, List.filter_cons_of_pos (by simp [h])]
      exact (perm.append_left _).trans (List.perm_append_comm_assoc ..)
    · rw [if_neg h] at perm
      rw [if_neg h, List.filter_cons_of_neg (by simp [h])]
      exact perm

/-! ## The probation moves (R44, R45) -/

/-- The probation run that a close gives a channel: none where the channel is not in PROBATION, the round is older than its
admission cycle or has no result for it (R44). -/
def newRun (res : RoundResult) (ch : Channel) (m : Member) : Option Nat :=
  match (res.channels.get ch).bind (·.probation), m.admissionCycle with
  | some result, some admission =>
    if m.state = .probation && sameOrNewer res.cycle admission && result != .noResult then
      some (runAfter m.probationRun result)
    else none
  | _, _ => none

/-- A member after the probation update of a close (R44, R45). -/
def probed (res : RoundResult) (ch : Channel) (m : Member) : Member :=
  match newRun res ch m with
  | some run =>
    if res.probationRounds ≤ run then { m with state := .voting, probationRun := 0 } else { m with probationRun := run }
  | none => m

theorem newRun_of_not_probation {res : RoundResult} {ch : Channel} {m : Member} (h : m.state ≠ .probation) :
    newRun res ch m = none := by
  unfold newRun
  split
  · exact if_neg (by simp [h])
  · rfl

theorem probed_of_not_probation {res : RoundResult} {ch : Channel} {m : Member} (h : m.state ≠ .probation) :
    probed res ch m = m := by rw [probed, newRun_of_not_probation h]

/-- PROMOTED where the update has taken the member from PROBATION to VOTING (R45). -/
def toldOfProbation (res : RoundResult) (ch : Channel) (m : Member) : List Notice :=
  if m.state = .probation ∧ (probed res ch m).state = .voting then [.promoted] else []

theorem updateProbation_eq (res : RoundResult) (s : State) (ch : Channel) :
    State.updateProbation res s ch =
      { s with
        members := s.members.set ch (probed res ch (s.members.get ch))
        outbox := s.outbox ++ toOne ch (toldOfProbation res ch (s.members.get ch)) } := by
  by_cases hp : (s.members.get ch).state = .probation
  · have moved : State.updateProbation res s ch =
        match newRun res ch (s.members.get ch) with
        | some run =>
          if res.probationRounds ≤ run then
            (s.modMember ch fun m => { m with state := .voting, probationRun := 0 }).send ch .promoted
          else s.modMember ch fun m => { m with probationRun := run }
        | none => s := by
      unfold State.updateProbation newRun
      cases (res.channels.get ch).bind (·.probation) with
      | none => rfl
      | some result =>
        cases ha : (s.members.get ch).admissionCycle with
        | none => simp only [ha]
        | some admission =>
          simp only [ha]
          split <;> rfl
    rw [moved, toldOfProbation, probed]
    cases newRun res ch (s.members.get ch) with
    | none => simp [hp]
    | some run =>
      by_cases h : res.probationRounds ≤ run
      · simp [h, hp, State.send, toOne_singleton]
      · simp only [if_neg h]
        rw [if_neg fun hv => absurd (hp.symm.trans hv.2) (by decide), toOne_nil, List.append_nil]
        rfl
  · have still : State.updateProbation res s ch = s := by
      unfold State.updateProbation
      dsimp only
      split
      · exact if_neg (by simp [hp])
      · rfl
    rw [still, probed_of_not_probation hp, toldOfProbation, if_neg fun h => hp h.1]
    simp

/-- The probation updates of a close. -/
theorem probation_spec (res : RoundResult) (s : State) :
    (∀ x, (Channel.all.foldl (State.updateProbation res) s).members.get x = probed res x (s.members.get x))
      ∧ (Channel.all.foldl (State.updateProbation res) s).outbox =
        s.outbox ++ Channel.all.flatMap fun x => toOne x (toldOfProbation res x (s.members.get x)) := by
  have step : ∀ (s : State) ch x, True → (State.updateProbation res s ch).members.get x =
      if x = ch then probed res ch (s.members.get ch) else s.members.get x := fun s ch x _ => by
    rw [updateProbation_eq, PerChannel.get_set]
  refine ⟨fun x => ?_, ?_⟩
  · have own := foldl_own (own := fun (s : State) x => s.members.get x) (g := probed res) (inv := fun _ => True)
      (fun _ _ h => h) step nodup_all (s := s) trivial x
    rwa [if_pos x.mem_all] at own
  · exact foldl_out (own := fun (s : State) x => s.members.get x) (g := probed res) (out := fun s => s.outbox)
      (o := fun ch m => toOne ch (toldOfProbation res ch m)) (inv := fun _ => True) (fun _ _ h => h) step
      (fun s ch _ => by rw [updateProbation_eq]) nodup_all (s := s) trivial

/-! ## The output state (R115, R117) -/

/-- OUTPUT_STATE at a change. -/
theorem moveOutput_outbox {s : State} {cfg : Configuration} (hi : s.store.installed = some cfg) (o : RoundOutcome) :
    (s.moveOutput o).outbox = s.outbox ++ toAll
      (if (s.moveOutput o).output.state = s.output.state then [] else [.outputState (s.moveOutput o).output.state]) := by
  unfold State.moveOutput
  rw [hi]
  dsimp only
  split
  · exact (List.append_nil _).symm
  · next h =>
    rw [if_neg]
    · rfl
    · exact h

end Sys2Proof.Proofs.CloseSteps
end

section
/-! Lemmas about the close as a whole: its phases, and what each channel has after them (R76, R97, R98). -/

namespace Sys2Proof.Proofs.CloseWhole

open Sys2Proof.Machine Sys2Proof.Proofs.Offers Sys2Proof.Proofs.SoundParts Sys2Proof.Proofs.MembersSettle
  Sys2Proof.Proofs.Leaving Sys2Proof.Proofs.EachChannel Sys2Proof.Proofs.CloseDecides Sys2Proof.Proofs.CloseSteps

/-! ## The round result (R97) -/

/-- The round result of a close of round `r` under configuration `cfg`. -/
def resultOf (s : State) (r : Round) (cfg : Configuration) (cause : CloseCause) : RoundResult :=
  evaluate cfg r.cycle cause (s.partsAtClose r) ((s.store.passBoundary r.cycle).tableForClose r.cycle)

section Results

variable (s : State) (r : Round) (cfg : Configuration) (cause : CloseCause) (ch : Channel)

theorem outcome_resultOf : (resultOf s r cfg cause).outcome = roundOutcome (votesAt s r cfg) := rfl

theorem channels_resultOf : (resultOf s r cfg cause).channels.get ch =
    if (s.channelState ch).receivesVerdict then
      some
        { ownStatus := s.ownStatusIn r cfg ch
          dissent := if s.judges r ch then s.dissentIn r cfg ch else []
          standing := if s.judges r ch then some (classIn s r cfg ch) else none
          probation := if s.channelState ch = .probation then
              some (probationResult (roundOutcome (votesAt s r cfg)) (classIn s r cfg ch))
            else none }
    else none := by
  rw [← channelResult_eq]
  exact PerChannel.get_build _ _

/-- The standing class of a channel at the close: none where it is not judged (R93, R94). -/
def judgedClass : Option StandingClass := if s.judges r ch then some (classIn s r cfg ch) else none

theorem receivesVerdict_of_isScored {st : ChannelState} (h : st.isScored = true) : st.receivesVerdict = true := by
  cases st <;> first | rfl | cases h

theorem standing_resultOf :
    ((resultOf s r cfg cause).channels.get ch).bind (·.standing) = judgedClass s r cfg ch := by
  rw [channels_resultOf, judgedClass]
  by_cases h : s.judges r ch = true
  · rw [if_pos h, receivesVerdict_of_isScored (isScored_of_judges h)]
    rfl
  · simp only [if_neg h]
    cases (s.channelState ch).receivesVerdict <;> rfl

theorem probation_resultOf : ((resultOf s r cfg cause).channels.get ch).bind (·.probation) =
    if s.channelState ch = .probation then
      some (probationResult (roundOutcome (votesAt s r cfg)) (classIn s r cfg ch))
    else none := by
  rw [channels_resultOf]
  by_cases h : s.channelState ch = .probation
  · rw [h]
    rfl
  · rw [if_neg h]
    cases (s.channelState ch).receivesVerdict <;> rfl

end Results

/-! ## The phases of a close (R76, R98) -/

/-- The round removed, the accepted items written and the close counted. -/
def recorded (s : State) (r : Round) (res : RoundResult) : State :=
  State.countDecision
    { s.removeRound r.cycle with store := (s.store.passBoundary r.cycle).writeClose r.cycle res.votes }

/-- The weights of the close, and the channels they claim. -/
def weighedAt (s : State) (r : Round) (res : RoundResult) : State × List Channel :=
  (recorded s r res).weighClose res.channels

/-- The output state moved, and the DECISION, the record and the VERDICTs produced. -/
def producedAt (s : State) (r : Round) (res : RoundResult) : State :=
  ((weighedAt s r res).1.moveOutput res.outcome).produce res

/-- The claimed channels excluded, and the probation runs moved. -/
def movedAt (s : State) (r : Round) (res : RoundResult) : State :=
  Channel.all.foldl (State.updateProbation res) (excludeAll (producedAt s r res) (weighedAt s r res).2)

/-- The rounds checked and the group state set. -/
def settledAt (s : State) (r : Round) (res : RoundResult) : State :=
  State.settleMembership (producedAt s r res) (movedAt s r res)

theorem closeRound_eq {s : State} {r : Round} {cfg : Configuration} (hf : s.store.inForce r.cycle = some cfg)
    (cause : CloseCause) :
    s.closeRound r cause =
      { settledAt s r (resultOf s r cfg cause) with
        store := (settledAt s r (resultOf s r cfg cause)).store.discardRetained
          (settledAt s r (resultOf s r cfg cause)).window.rounds } := by
  unfold State.closeRound
  rw [hf]
  rfl

theorem exec_close_eq {s : State} {r : Round} {rest : List Round} (hr : s.window.rounds = r :: rest)
    (hsealed : r.sealedBy ≠ none) : ∃ cause, exec .close s = .next (s.closeRound r cause).settleNotices := by
  obtain ⟨sl, hsl⟩ := Option.ne_none_iff_exists'.mp hsealed
  refine ⟨sl.cause.closeCause, ?_⟩
  change execClose s = _
  have oldest : s.window.oldestSealed = some (r, sl.cause) := by simp [Window.oldestSealed, hr, hsl]
  rw [execClose, oldest]

section Phases

variable (s : State) (r : Round) (res : RoundResult)

theorem store_recorded : (recorded s r res).store.installed = s.store.installed
    ∧ (recorded s r res).store.awaiting = s.store.awaiting := by
  have passed : (s.store.passBoundary r.cycle).installed = s.store.installed
      ∧ (s.store.passBoundary r.cycle).awaiting = s.store.awaiting := by
    unfold Store.passBoundary
    split
    · split <;> exact ⟨rfl, rfl⟩
    · exact ⟨rfl, rfl⟩
  have written : (recorded s r res).store = (s.store.passBoundary r.cycle).writeClose r.cycle res.votes := rfl
  rw [written, Store.writeClose]
  split <;> exact passed

theorem recorded_keeps : s.keepsAllBut (recorded s r res) [.window, .store, .part] := fun b hb => by
  cases b <;> first | rfl | exact absurd (by decide) hb

theorem weighedAt_keeps : (recorded s r res).keepsAllBut (weighedAt s r res).1 [.standing, .outbox] :=
  State.weighClose_keeps _ _

theorem outputMoved_keeps : s.keepsAllBut ((weighedAt s r res).1.moveOutput res.outcome)
    [.window, .store, .part, .standing, .outbox, .output] :=
  ((recorded_keeps s r res).mono (by decide)).trans
    (((weighedAt_keeps s r res).mono (by decide)).trans ((State.moveOutput_keeps _ _).mono (by decide)))

theorem producedAt_keeps_weighed :
    (weighedAt s r res).1.keepsAllBut (producedAt s r res) [.standing, .outbox, .output, .part, .history, .ports] :=
  ((State.moveOutput_keeps _ _).mono (by decide)).trans ((State.produce_keeps _ _).mono (by decide))

theorem producedAt_keeps_recorded :
    (recorded s r res).keepsAllBut (producedAt s r res) [.standing, .outbox, .output, .part, .history, .ports] :=
  ((weighedAt_keeps s r res).mono (by decide)).trans (producedAt_keeps_weighed s r res)

theorem producedAt_keeps :
    s.keepsAllBut (producedAt s r res) [.window, .store, .part, .standing, .outbox, .output, .history, .ports] :=
  ((recorded_keeps s r res).mono (by decide)).trans ((producedAt_keeps_recorded s r res).mono (by decide))

theorem movedAt_keeps : (producedAt s r res).keepsAllBut (movedAt s r res)
    [.timer, .members, .window, .standing, .changes, .part, .outbox] :=
  (excludeAll_keeps _ _).trans (.foldl (fun s ch => (s.updateProbation_keeps res ch).mono (by decide)) _ _)

theorem settledAt_keeps : (movedAt s r res).keepsAllBut (settledAt s r res) [.window, .groupState, .outbox] :=
  State.settleMembership_keeps _ _

theorem currentHoldoff_producedAt : (producedAt s r res).currentHoldoff = s.currentHoldoff := by
  obtain ⟨installed, awaiting⟩ := store_recorded s r res
  rw [State.currentHoldoff, State.currentHoldoff,
    show (producedAt s r res).store = (recorded s r res).store from producedAt_keeps_recorded s r res .store (by decide),
    Store.current, Store.current, installed, awaiting]

/-! ## What each channel has after the close -/

variable {s r res} {cfg installed : Configuration} {cause : CloseCause} (hs : Sound s)
  (hi : s.store.installed = some installed) (hres : res = resultOf s r cfg cause)

/-- The score of a channel after the weights of the close. -/
def newStanding (s : State) (r : Round) (cfg : Configuration) (ch : Channel) : Standing :=
  weighedStanding (judgedClass s r cfg ch) (s.standing.get ch)

/-- The close claims the exclusion of this channel. -/
def claimed (s : State) (r : Round) (cfg installed : Configuration) (ch : Channel) : Bool :=
  claims installed.record (judgedClass s r cfg ch) (s.standing.get ch)

include hi hres in
theorem weighedAt_spec :
    (∀ x, (weighedAt s r res).1.standing.get x = newStanding s r cfg x)
      ∧ (weighedAt s r res).1.outbox = s.outbox ++ (Channel.all.flatMap fun x => toOne x
        (adviceOf installed.record (s.standing.get x).score (newStanding s r cfg x).score))
      ∧ (weighedAt s r res).2 = Channel.all.filter (claimed s r cfg installed) := by
  have classes : ∀ x, (res.channels.get x).bind (·.standing) = judgedClass s r cfg x := fun x => by
    rw [hres, standing_resultOf]
  have spec := weighClose_spec (s := recorded s r res) (cfg := installed) (res := res.channels)
    ((store_recorded s r res).1.trans hi) fun x hx => by
      rw [classes, judgedClass] at hx
      by_cases h : s.judges r x = true
      · exact isScored_of_judges h
      · rw [if_neg h] at hx
        exact absurd hx Bool.false_ne_true
  simp only [classes] at spec
  exact spec

/-- What a close produces: the record, the notices so far, and each channel's VERDICT. -/
theorem producedAt_history : (producedAt s r res).history =
    (⟨res.cycle, res.epoch, res.cause, res.outcome, (producedAt s r res).output.state,
        shownItems res (producedAt s r res).output.state⟩ :: s.history).take 16 := by
  obtain ⟨history, out, -⟩ := produce_spec ((weighedAt s r res).1.moveOutput res.outcome) res
  have same : ((weighedAt s r res).1.moveOutput res.outcome).history = s.history :=
    outputMoved_keeps s r res .history (by decide)
  rw [producedAt, out, history, same]

include hi hres in
theorem producedAt_own (x : Channel) :
    ((producedAt s r res).ports.get x, (producedAt s r res).standing.get x) =
      withVerdict res (shownItems res (producedAt s r res).output.state) (producedAt s r res).output.state x
        (s.ports.get x, newStanding s r cfg x) := by
  obtain ⟨standing, -, -⟩ := weighedAt_spec hi hres
  obtain ⟨-, out, own⟩ := produce_spec ((weighedAt s r res).1.moveOutput res.outcome) res
  have ports : ((weighedAt s r res).1.moveOutput res.outcome).ports = s.ports :=
    outputMoved_keeps s r res .ports (by decide)
  have weighed : ((weighedAt s r res).1.moveOutput res.outcome).standing = (weighedAt s r res).1.standing :=
    State.moveOutput_keeps _ _ .standing (by decide)
  rw [producedAt, own, out, ports, weighed, standing]

include hs hi hres in
theorem producedAt_outbox : (producedAt s r res).outbox =
    (Channel.all.flatMap fun x => toOne x
        (adviceOf installed.record (s.standing.get x).score (newStanding s r cfg x).score))
      ++ toAll (if (producedAt s r res).output.state = s.output.state then []
        else [.outputState (producedAt s r res).output.state]) := by
  obtain ⟨-, outbox, -⟩ := weighedAt_spec hi hres
  obtain ⟨-, out, -⟩ := produce_spec ((weighedAt s r res).1.moveOutput res.outcome) res
  have installedNow : (weighedAt s r res).1.store.installed = some installed := by
    rw [show (weighedAt s r res).1.store = (recorded s r res).store from weighedAt_keeps s r res .store (by decide),
      (store_recorded s r res).1, hi]
  have before : (weighedAt s r res).1.output = s.output :=
    Eq.trans (weighedAt_keeps s r res .output (by decide)) (recorded_keeps s r res .output (by decide))
  rw [producedAt, out, State.produce_keeps _ res .outbox (by decide), moveOutput_outbox installedNow, outbox, before,
    EventNotices.outbox_eq_nil hs, List.nil_append]

/-- A channel that the close claims is weighed, and so scored. -/
theorem isScored_of_claimed {x : Channel} (h : claimed s r cfg installed x = true) :
    (s.channelState x).isScored = true := by
  by_cases hj : s.judges r x = true
  · exact isScored_of_judges hj
  · rw [claimed, judgedClass, if_neg hj] at h
    exact absurd h Bool.false_ne_true

include hs hi in
/-- A close claims exactly the scored channels whose score has then reached exclude_level (R46, R102). -/
theorem claimed_iff {x : Channel} : claimed s r cfg installed x = true ↔
    (s.channelState x).isScored = true ∧ installed.record.excludeLevel ≤ (newStanding s r cfg x).score := by
  refine ⟨fun h => ⟨isScored_of_claimed h, ?_⟩, fun ⟨hsc, hle⟩ => ?_⟩
  · simp only [claimed, claims, Bool.and_eq_true, decide_eq_true_eq] at h
    exact h.2
  · simp only [claimed, claims, Bool.and_eq_true, decide_eq_true_eq]
    refine ⟨?_, hle⟩
    cases hw : (judgedClass s r cfg x).bind (·.weight) with
    | some pair => rfl
    | none =>
      rw [newStanding, weighedStanding, hw] at hle
      exact absurd hle (Nat.not_le.mpr (score_lt_excludeLevel hs hi hsc))

/-- The entry of a channel after the close. -/
def newMember (s : State) (r : Round) (cfg installed : Configuration) (res : RoundResult) (x : Channel) : Member :=
  if claimed s r cfg installed x then excludedMember .score s.currentHoldoff (s.members.get x)
  else probed res x (s.members.get x)

theorem nodup_claimed : (Channel.all.filter (claimed s r cfg installed)).Nodup := nodup_all.filter _

include hi hres in
theorem excludeAll_producedAt_own (x : Channel) :
    ((excludeAll (producedAt s r res) (weighedAt s r res).2).members.get x,
      (excludeAll (producedAt s r res) (weighedAt s r res).2).standing.get x) =
    if claimed s r cfg installed x then
      (excludedMember .score s.currentHoldoff (s.members.get x),
        { (producedAt s r res).standing.get x with
          counters := ((producedAt s r res).standing.get x).counters.bump .exclusions })
    else (s.members.get x, (producedAt s r res).standing.get x) := by
  obtain ⟨-, -, claimsList⟩ := weighedAt_spec hi hres
  rw [claimsList, excludeAll_own nodup_claimed, currentHoldoff_producedAt,
    show (producedAt s r res).members = s.members from producedAt_keeps s r res .members (by decide)]
  simp only [List.mem_filter, x.mem_all, true_and]

include hi hres in
theorem excludeAll_producedAt_members (x : Channel) :
    (excludeAll (producedAt s r res) (weighedAt s r res).2).members.get x =
      if claimed s r cfg installed x then excludedMember .score s.currentHoldoff (s.members.get x)
      else s.members.get x :=
  (congrArg Prod.fst (excludeAll_producedAt_own hi hres x)).trans (apply_ite Prod.fst _ _ _)

include hi hres in
theorem settledAt_members (x : Channel) : (settledAt s r res).members.get x = newMember s r cfg installed res x := by
  obtain ⟨members, -⟩ := probation_spec res (excludeAll (producedAt s r res) (weighedAt s r res).2)
  rw [show (settledAt s r res).members = (movedAt s r res).members from settledAt_keeps s r res .members (by decide),
    movedAt, members, newMember, excludeAll_producedAt_members hi hres]
  split
  · exact probed_of_not_probation fun h => nomatch h
  · rfl

include hi hres in
theorem settledAt_standing (x : Channel) : (settledAt s r res).standing.get x =
    if claimed s r cfg installed x then
      { (producedAt s r res).standing.get x with
        counters := ((producedAt s r res).standing.get x).counters.bump .exclusions }
    else (producedAt s r res).standing.get x := by
  have own := congrArg Prod.snd (excludeAll_producedAt_own hi hres x)
  have kept : (excludeAll (producedAt s r res) (weighedAt s r res).2).keepsAllBut (settledAt s r res)
      [.members, .window, .groupState, .outbox] :=
    (State.keepsAllBut.foldl (fun s ch => (s.updateProbation_keeps res ch).mono (by decide)) _ _).trans
      ((settledAt_keeps s r res).mono (by decide))
  rw [show (settledAt s r res).standing = _ from kept .standing (by decide)]
  refine Eq.trans own ?_
  split <;> rfl

theorem newMember_state_ne {x : Channel} (h : claimed s r cfg installed x = false) :
    (newMember s r cfg installed res x).state = .excluded → s.channelState x = .excluded := by
  rw [newMember, h, probed]
  intro heq
  revert heq
  simp only [Bool.false_eq_true, if_false]
  split
  · split
    · exact fun heq => nomatch heq
    · exact id
  · exact id

/-- The state after the event of a close. -/
def closedAt (s : State) (r : Round) (res : RoundResult) : State :=
  State.settleNotices { settledAt s r res with
    store := (settledAt s r res).store.discardRetained (settledAt s r res).window.rounds }

theorem closedAt_keeps : (settledAt s r res).keepsAllBut (closedAt s r res) [.store, .ports, .outbox] := by
  have kept := State.settleNotices_keeps { settledAt s r res with
    store := (settledAt s r res).store.discardRetained (settledAt s r res).window.rounds }
  have stored : (settledAt s r res).keepsAllBut { settledAt s r res with
      store := (settledAt s r res).store.discardRetained (settledAt s r res).window.rounds } [.store] := fun b hb => by
    cases b <;> first | rfl | exact absurd (by decide) hb
  exact (stored.mono (by decide)).trans (kept.mono (by decide))

theorem closedAt_output : (closedAt s r res).output = (producedAt s r res).output :=
  Eq.trans (closedAt_keeps .output (by decide))
    (Eq.trans (settledAt_keeps s r res .output (by decide)) (movedAt_keeps s r res .output (by decide)))

theorem closedAt_history : (closedAt s r res).history = (producedAt s r res).history :=
  Eq.trans (closedAt_keeps .history (by decide))
    (Eq.trans (settledAt_keeps s r res .history (by decide)) (movedAt_keeps s r res .history (by decide)))

theorem settledAt_ports : (settledAt s r res).ports = (producedAt s r res).ports :=
  Eq.trans (settledAt_keeps s r res .ports (by decide)) (movedAt_keeps s r res .ports (by decide))

include hi hres in
theorem closedAt_members (x : Channel) : (closedAt s r res).members.get x = newMember s r cfg installed res x := by
  rw [show (closedAt s r res).members = _ from closedAt_keeps .members (by decide), settledAt_members hi hres]

include hi hres in
theorem closedAt_standing (x : Channel) : (closedAt s r res).standing.get x =
    if claimed s r cfg installed x then
      { (producedAt s r res).standing.get x with
        counters := ((producedAt s r res).standing.get x).counters.bump .exclusions }
    else (producedAt s r res).standing.get x := by
  rw [show (closedAt s r res).standing = _ from closedAt_keeps .standing (by decide), settledAt_standing hi hres]

theorem withVerdict_score (items : List ItemResult) (out : OutputState) (x : Channel) (p : Port × Standing) :
    (withVerdict res items out x p).2.score = p.2.score := by
  unfold withVerdict
  split
  · split
    · dsimp only
      split <;> rfl
    · rfl
  · rfl

theorem withVerdict_port (items : List ItemResult) (out : OutputState) (x : Channel) (p : Port × Standing) :
    (withVerdict res items out x p).1 = { p.1 with verdicts := (withVerdict res items out x p).1.verdicts } := by
  unfold withVerdict
  split
  · split <;> rfl
  · rfl

include hi hres in
theorem closedAt_score (x : Channel) :
    ((closedAt s r res).standing.get x).score = (newStanding s r cfg x).score := by
  have own := congrArg (·.2.score) (producedAt_own hi hres x)
  rw [withVerdict_score] at own
  rw [closedAt_standing hi hres]
  split <;> exact own

include hi hres in
/-- Between the states before and after a close, exactly the claimed channels have been excluded. -/
theorem excludesNow_closedAt (x : Channel) : s.excludesNow (closedAt s r res) x = claimed s r cfg installed x := by
  have state : (closedAt s r res).channelState x = (newMember s r cfg installed res x).state :=
    congrArg Member.state (closedAt_members hi hres x)
  cases h : claimed s r cfg installed x with
  | true =>
    have scored := isScored_of_claimed h
    have before : s.channelState x ≠ .excluded := by
      intro heq
      rw [heq] at scored
      cases scored
    rw [State.excludesNow, state, newMember, h]
    simp [excludedMember, before]
  | false =>
    rw [State.excludesNow, state]
    by_cases hx : (newMember s r cfg installed res x).state = .excluded
    · simp [newMember_state_ne h hx]
    · simp [hx]

include hs hi hres in
/-- The notices of a close, in the order in which the blocks give them. -/
theorem settledAt_outbox : ∃ told, told.Perm
      ((Channel.all.filter (claimed s r cfg installed)).map (fun x => Notice.excluded x .score)
        ++ s.changes.departuresOf
          ((Channel.all.filter (claimed s r cfg installed)).filter fun x => s.channelState x == .voting))
    ∧ (settledAt s r res).outbox = (producedAt s r res).outbox ++ toAll told
      ++ (Channel.all.flatMap fun x => toOne x
        (if s.channelState x = .probation ∧ (closedAt s r res).channelState x = .voting then [.promoted] else []))
      ++ toAll (s.groupNotice (closedAt s r res)) := by
  have kept := producedAt_keeps s r res
  have changes : (producedAt s r res).changes = s.changes := kept .changes (by decide)
  have members : (producedAt s r res).members = s.members := kept .members (by decide)
  have state : ∀ x, (producedAt s r res).channelState x = s.channelState x := fun x => by
    rw [State.channelState, State.channelState, members]
  obtain ⟨-, -, claimsList⟩ := weighedAt_spec hi hres
  obtain ⟨-, tickets, -⟩ := FoundingExpiry.changes_parts hs
  obtain ⟨told, outbox, perm⟩ := excludeAll_told (weighedAt s r res).2 (producedAt s r res)
    (by rw [claimsList]; exact nodup_claimed) (by rwa [changes]) (by rw [changes]; exact not_isFound_of_installed hs hi)
    fun x hx => by
      rw [claimsList, List.mem_filter] at hx
      rw [state]
      exact isVoter_of_isScored (isScored_of_claimed hx.2)
  obtain ⟨-, promoted⟩ := probation_spec res (excludeAll (producedAt s r res) (weighedAt s r res).2)
  have promotions : ∀ x, toldOfProbation res x
      ((excludeAll (producedAt s r res) (weighedAt s r res).2).members.get x) =
      if s.channelState x = .probation ∧ (closedAt s r res).channelState x = .voting then [.promoted] else [] := fun x => by
    have after : (closedAt s r res).channelState x = (newMember s r cfg installed res x).state :=
      congrArg Member.state (closedAt_members hi hres x)
    rw [excludeAll_producedAt_members hi hres, after, newMember, toldOfProbation]
    cases claimed s r cfg installed x with
    | true =>
      rw [if_pos rfl, if_neg fun h => ChannelState.noConfusion h.1, if_neg fun h => ChannelState.noConfusion h.2]
    | false => rfl
  have group : groupChange (movedAt s r res) = s.groupNotice (closedAt s r res) := by
    have before : (movedAt s r res).groupState = s.groupState :=
      Eq.trans (movedAt_keeps s r res .groupState (by decide)) (kept .groupState (by decide))
    have after : (closedAt s r res).groupState = (movedAt s r res).derivedGroupState := by
      rw [show (closedAt s r res).groupState = _ from closedAt_keeps .groupState (by decide), settledAt,
        settleMembership_eq]
    rw [groupChange, State.groupNotice, before, after]
  refine ⟨told, ?_, ?_⟩
  · simpa only [claimsList, changes, state] using perm
  · rw [settledAt, settleMembership_eq, ← group]
    change (movedAt s r res).outbox ++ _ = _
    rw [movedAt, promoted, outbox, List.flatMap_congr fun x _ => by rw [promotions x]]

theorem sameButNotices_of_offeredAll {p q : Port} {l : List Notice} (h : p.offeredAll q l) : p.sameButNotices q := by
  obtain ⟨order, -, rfl⟩ := h
  rw [Port.foldl_offered]
  split
  · exact Port.foldl_takeNotice_sameButNotices _ _
  · exact .refl _

include hs hi hres in
/-- Each port is offered the notices of the close. -/
theorem closedAt_offered (ch : Channel) : ((producedAt s r res).ports.get ch).offeredAll
    ((closedAt s r res).ports.get ch) (s.closeNotices (closedAt s r res) installed ch) := by
  obtain ⟨told, perm, outbox⟩ := settledAt_outbox hs hi hres
  rw [producedAt_outbox hs hi hres] at outbox
  have stages : ∀ o ∈ (settledAt s r res).outbox, o.stage = 0 := fun o ho => by
    rw [outbox] at ho
    simp only [List.mem_append, List.mem_flatMap] at ho
    rcases ho with (((⟨x, -, ho⟩ | ho) | ho) | ⟨x, -, ho⟩) | ho
    · exact stage_of_mem_toOne ho
    · exact stage_of_mem_toAll ho
    · exact stage_of_mem_toAll ho
    · exact stage_of_mem_toOne ho
    · exact stage_of_mem_toAll ho
  have offers := State.settleNotices_offeredAll { settledAt s r res with
    store := (settledAt s r res).store.discardRetained (settledAt s r res).window.rounds } ch stages
  have mine := congrArg (noticesFor · ch 0) outbox
  simp only [noticesFor_append, noticesFor_flatMap_toOne, noticesFor_toAll] at mine
  rw [show ({ settledAt s r res with
    store := (settledAt s r res).store.discardRetained (settledAt s r res).window.rounds } : State).outbox
      = (settledAt s r res).outbox from rfl, mine,
    show ({ settledAt s r res with
      store := (settledAt s r res).store.discardRetained (settledAt s r res).window.rounds } : State).ports
      = (producedAt s r res).ports from settledAt_ports] at offers
  refine offeredAll_perm offers ?_
  have now : s.excludesNow (closedAt s r res) = claimed s r cfg installed :=
    funext fun x => excludesNow_closedAt hi hres x
  have voters : s.votersExcluded (closedAt s r res) =
      (Channel.all.filter (claimed s r cfg installed)).filter fun x => s.channelState x == .voting := by
    rw [State.votersExcluded, now, List.filter_filter]
    exact List.filter_congr fun x _ => Bool.and_comm _ _
  rw [State.closeNotices, voters, now, closedAt_score hi hres, closedAt_output]
  simp only [List.append_assoc]
  refine .append_left _ (.append_left _ ?_)
  rw [← List.append_assoc (List.map _ _)]
  exact perm.append_right _

/-- A recipient's port is UP (R33). -/
theorem up_of_receivesVerdict (hs : Sound s) {x : Channel} (h : (s.channelState x).receivesVerdict = true) :
    (s.ports.get x).line = .up := by
  by_contra hup
  rw [(detached_iff hs x).mpr hup] at h
  exact Bool.false_ne_true h

include hs hi hres in
/-- What a close leaves waiting for a channel, and the drop that it counts. -/
theorem producedAt_verdict (x : Channel) :
    (producedAt s r res).ports.get x = { s.ports.get x with
        verdicts := ((producedAt s r res).ports.get x).verdicts }
      ∧ ((s.channelState x).receivesVerdict = false →
        ((producedAt s r res).ports.get x).verdicts = (s.ports.get x).verdicts
          ∧ (producedAt s r res).standing.get x = newStanding s r cfg x)
      ∧ ((s.channelState x).receivesVerdict = true →
        ((producedAt s r res).ports.get x).verdicts = joined
            ⟨res.cycle, res.epoch, res.outcome, res.cause, (producedAt s r res).output.state,
              shownItems res (producedAt s r res).output.state, s.ownStatusIn r cfg x,
              if s.judges r x then s.dissentIn r cfg x else [], (newStanding s r cfg x).score⟩ (s.ports.get x).verdicts
          ∧ (producedAt s r res).standing.get x =
            if (s.ports.get x).verdicts.length < 4 then newStanding s r cfg x
            else { newStanding s r cfg x with
              counters := (newStanding s r cfg x).counters.bump .verdictsDropped }) := by
  have own := producedAt_own hi hres x
  have result : res.channels.get x = _ := (congrArg (·.channels.get x) hres).trans (channels_resultOf s r cfg cause x)
  refine ⟨?_, fun h => ?_, fun h => ?_⟩
  · have port := withVerdict_port (res := res) (shownItems res (producedAt s r res).output.state)
      (producedAt s r res).output.state x (s.ports.get x, newStanding s r cfg x)
    rwa [← own] at port
  · rw [h] at result
    rw [withVerdict, result] at own
    exact ⟨congrArg (·.1.verdicts) own, congrArg (·.2) own⟩
  · rw [h, if_pos rfl] at result
    rw [withVerdict, result] at own
    simp only [if_pos (up_of_receivesVerdict hs h)] at own
    exact ⟨congrArg (·.1.verdicts) own, congrArg (·.2) own⟩

include hs hi hres in
theorem closedAt_verdicts (x : Channel) :
    ((closedAt s r res).ports.get x).verdicts = ((producedAt s r res).ports.get x).verdicts := by
  have same := sameButNotices_of_offeredAll (closedAt_offered hs hi hres x)
  rw [same]

include hs hi hres in
/-- Each port has been offered the notices of the close, whatever VERDICT waits in it. -/
theorem toldAtClose_closedAt (x : Channel) : s.toldAtClose (closedAt s r res) installed x := by
  obtain ⟨port, -, -⟩ := producedAt_verdict hs hi hres x
  have offers := closedAt_offered hs hi hres x
  rw [port, ← closedAt_verdicts hs hi hres] at offers
  exact offers

/-- The record of the close. -/
def recordAt (s : State) (r : Round) (res : RoundResult) : DecisionRecord :=
  ⟨res.cycle, res.epoch, res.cause, res.outcome, (producedAt s r res).output.state,
    shownItems res (producedAt s r res).output.state⟩

theorem closedAt_head : (closedAt s r res).history.head? = some (recordAt s r res) := by
  rw [closedAt_history, producedAt_history]
  rfl

theorem outcome_recordAt (hres : res = resultOf s r cfg cause) :
    (recordAt s r res).outcome = roundOutcome (votesAt s r cfg) := congrArg RoundResult.outcome hres

end Phases

/-- CLOSE of the oldest round, SEALED, under the configuration in force for it (R74, R76). -/
theorem exec_close {s : State} {r : Round} {rest : List Round} {cfg : Configuration} (hr : s.window.rounds = r :: rest)
    (hsealed : r.sealedBy ≠ none) (hf : s.store.inForce r.cycle = some cfg) :
    ∃ cause, exec .close s = .next (closedAt s r (resultOf s r cfg cause)) := by
  obtain ⟨cause, close⟩ := exec_close_eq hr hsealed
  exact ⟨cause, by rw [close, closeRound_eq hf]; rfl⟩

end Sys2Proof.Proofs.CloseWhole
end

section
/-! What a close leaves each channel: the VERDICT, the notices, the weights and the moves (R44 to R46, R92 to R96, R101 to R103,
R124 to R126). -/

namespace Sys2Proof.Proofs.CloseSettles

open Sys2Proof.Machine Sys2Proof.Proofs.SoundParts Sys2Proof.Proofs.Leaving Sys2Proof.Proofs.CloseDecides
  Sys2Proof.Proofs.CloseSteps Sys2Proof.Proofs.CloseWhole

/-! ## What a sound part gives -/

theorem score_le {s : State} (hs : Sound s) (ch : Channel) : (s.standing.get ch).score ≤ 255 := by
  have h := hs.bounded
  simp only [State.bounded, Bool.and_eq_true, Channel.all_all, Standing.bounded, decide_eq_true_eq] at h
  obtain ⟨⟨⟨⟨⟨⟨channels, -⟩, -⟩, -⟩, -⟩, -⟩, -⟩ := h
  exact (channels ch).1.1.1.1

theorem retainedFor_mem {c : Cycle} {l : List Configuration} {cfg : Configuration} (h : retainedFor c l = some cfg) :
    cfg ∈ l := by
  induction l with
  | nil => cases h
  | cons first rest ih =>
    cases rest with
    | nil => exact List.mem_singleton.mpr (Option.some.inj h).symm
    | cons next rest =>
      rw [retainedFor] at h
      split at h
      · exact Option.some.inj h ▸ List.mem_cons_self ..
      · exact List.mem_cons_of_mem _ (ih h)

/-- Every configuration in force is a sound one (R5, R8, R9). -/
theorem inForce_sound {s : State} (hs : Sound s) {c : Cycle} {cfg : Configuration} (h : s.store.inForce c = some cfg) :
    cfg.sound = true := by
  have hst := hs.store
  unfold Store.sound at hst
  cases hi : s.store.installed with
  | none =>
    rw [hi] at hst
    simp only [Bool.and_eq_true, Option.isNone_iff_eq_none] at hst
    obtain ⟨⟨⟨⟨awaiting, -⟩, -⟩, -⟩, -⟩ := hst
    simp [Store.inForce, hi, awaiting] at h
  | some installed =>
    rw [hi] at hst
    simp only [Bool.and_eq_true, List.all_eq_true] at hst
    obtain ⟨⟨⟨⟨sound, -⟩, -⟩, retained⟩, follows⟩ := hst
    have settled : (if s.store.retained ≠ [] && older c installed.firstCycle then retainedFor c s.store.retained
        else some installed) = some cfg → cfg.sound = true := fun heq => by
      split at heq
      · exact retained cfg (retainedFor_mem heq)
      · exact Option.some.inj heq ▸ sound
    unfold Store.inForce at h
    simp only [hi] at h
    cases hw : s.store.awaiting with
    | none =>
      rw [hw] at h
      exact settled h
    | some w =>
      rw [hw] at h follows
      simp only [Awaiting.follows, Bool.and_eq_true] at follows
      dsimp only at h
      split at h
      · exact Option.some.inj h ▸ follows.1.1.1
      · exact settled h

theorem probationRounds_pos {cfg : Configuration} (h : cfg.sound = true) : 0 < cfg.record.probationRounds := by
  simp only [Configuration.sound, GroupRecord.valid, Bool.and_eq_true, decide_eq_true_eq] at h
  omega

section OneClose

variable {s : State} {r : Round} {cfg installed : Configuration} {res : RoundResult} {cause : CloseCause} (hs : Sound s)
  (hi : s.store.installed = some installed) (hres : res = resultOf s r cfg cause) {ch : Channel}

theorem receivesVerdict_iff : (s.channelState ch).receivesVerdict = true ↔
    s.channelState ch = .probation ∨ s.channelState ch = .voting ∨ s.channelState ch = .observer := by
  cases s.channelState ch <;> simp [ChannelState.receivesVerdict]

/-! ## The VERDICT (R92, R94 to R96, R124, R125) -/

theorem newStanding_kept : (newStanding s r cfg ch).counters.verdictsDropped = (s.standing.get ch).counters.verdictsDropped
    ∧ (newStanding s r cfg ch).counters.exclusions = (s.standing.get ch).counters.exclusions := by
  rw [newStanding, weighedStanding]
  cases judgedClass s r cfg ch with
  | none => exact ⟨rfl, rfl⟩
  | some c => cases c <;> exact ⟨rfl, rfl⟩

include hs hi hres

omit hs in
theorem closedAt_dropped : ((closedAt s r res).standing.get ch).counters.verdictsDropped =
    ((producedAt s r res).standing.get ch).counters.verdictsDropped := by
  rw [closedAt_standing hi hres]
  split <;> rfl

theorem not_recipient (h : (s.channelState ch).receivesVerdict = false) :
    ((closedAt s r res).ports.get ch).verdicts = (s.ports.get ch).verdicts
      ∧ ((closedAt s r res).standing.get ch).counters.verdictsDropped =
          (s.standing.get ch).counters.verdictsDropped := by
  obtain ⟨-, outside, -⟩ := producedAt_verdict hs hi hres ch
  obtain ⟨verdicts, standing⟩ := outside h
  exact ⟨(closedAt_verdicts hs hi hres ch).trans verdicts,
    (closedAt_dropped hi hres).trans (by rw [standing, newStanding_kept.1])⟩

/-- The VERDICT of a recipient (R124). -/
def verdictAt (s : State) (r : Round) (cfg : Configuration) (res : RoundResult) (ch : Channel) : Verdict :=
  ⟨res.cycle, res.epoch, res.outcome, res.cause, (producedAt s r res).output.state,
    shownItems res (producedAt s r res).output.state, s.ownStatusIn r cfg ch,
    if s.judges r ch then s.dissentIn r cfg ch else [], (newStanding s r cfg ch).score⟩

theorem recipient (h : (s.channelState ch).receivesVerdict = true) :
    ((closedAt s r res).ports.get ch).verdicts = joined (verdictAt s r cfg res ch) (s.ports.get ch).verdicts
      ∧ ((closedAt s r res).standing.get ch).counters.verdictsDropped =
          (if (s.ports.get ch).verdicts.length < 4 then (s.standing.get ch).counters.verdictsDropped
          else min ((s.standing.get ch).counters.verdictsDropped + 1) 65535) := by
  obtain ⟨-, -, inside⟩ := producedAt_verdict hs hi hres ch
  obtain ⟨verdicts, standing⟩ := inside h
  refine ⟨(closedAt_verdicts hs hi hres ch).trans verdicts, (closedAt_dropped hi hres).trans ?_⟩
  rw [standing, ← (newStanding_kept (s := s) (r := r) (cfg := cfg) (ch := ch)).1]
  split <;> rfl

/-! ## The weights (R101, R103) -/

/-- What the weights, the VERDICT's drop and an exclusion make of a channel's standing. -/
theorem closedAt_standing_eq : (closedAt s r res).standing.get ch =
    { score := (newStanding s r cfg ch).score
      counters := { (newStanding s r cfg ch).counters with
        exclusions := if s.excludesNow (closedAt s r res) ch then min ((s.standing.get ch).counters.exclusions + 1) 65535
          else (s.standing.get ch).counters.exclusions
        verdictsDropped := ((closedAt s r res).standing.get ch).counters.verdictsDropped } } := by
  obtain ⟨-, outside, inside⟩ := producedAt_verdict hs hi hres ch
  have produced : (producedAt s r res).standing.get ch =
      { newStanding s r cfg ch with counters := { (newStanding s r cfg ch).counters with
          verdictsDropped := ((producedAt s r res).standing.get ch).counters.verdictsDropped } } := by
    cases h : (s.channelState ch).receivesVerdict with
    | false => rw [(outside h).2]
    | true =>
      rw [(inside h).2]
      split <;> rfl
  rw [excludesNow_closedAt hi hres, closedAt_dropped hi hres,
    ← (newStanding_kept (s := s) (r := r) (cfg := cfg) (ch := ch)).2, closedAt_standing hi hres, produced]
  split <;> rfl

/-- The standing after a close, from the score and the counters that the weight leaves. -/
theorem closedAt_standing_of {score : Nat} {counted : Counters}
    (h : newStanding s r cfg ch = { score, counters := counted }) : (closedAt s r res).standing.get ch =
    { score
      counters := { counted with
        exclusions := if s.excludesNow (closedAt s r res) ch then min ((s.standing.get ch).counters.exclusions + 1) 65535
          else (s.standing.get ch).counters.exclusions
        verdictsDropped := ((closedAt s r res).standing.get ch).counters.verdictsDropped } } := by
  have eq := closedAt_standing_eq hs hi hres (ch := ch)
  rwa [h] at eq

omit hs hi hres

theorem newStanding_of_not_judged (h : ¬ s.judges r ch = true) :
    newStanding s r cfg ch = { score := (s.standing.get ch).score, counters := (s.standing.get ch).counters } := by
  rw [newStanding, judgedClass, if_neg h]
  rfl

/-- The standing of a judged channel after the weight of its class. -/
theorem newStanding_of_class {c : StandingClass} (h : s.judges r ch = true) (hc : classIn s r cfg ch = c) :
    newStanding s r cfg ch = weighedStanding (some c) (s.standing.get ch) := by
  rw [newStanding, judgedClass, if_pos h, hc]

/-- A judged channel whose class has a weight that is not negative. -/
theorem newStanding_of_weight {c : StandingClass} {k : Nat} {name : CounterName} (h : s.judges r ch = true)
    (hc : classIn s r cfg ch = c) (hw : c.weight = some ((k : Int), name)) : newStanding s r cfg ch =
    { score := min ((s.standing.get ch).score + k) 255, counters := (s.standing.get ch).counters.bump name } := by
  rw [newStanding_of_class h hc, weighedStanding, show (some c).bind (·.weight) = some ((k : Int), name) from hw]
  simp only [weighted_of_nonneg]

theorem weighted_sub_one {score : Nat} (h : score ≤ 255) : weighted score (-1) = score - 1 := by
  unfold weighted
  omega

/-! ## The moves (R44 to R46) -/

include hs hi hres

theorem closedAt_members_of_not_probation (hp : s.channelState ch ≠ .probation) :
    (closedAt s r res).members.get ch =
      if s.channelState ch = .voting ∧ installed.record.excludeLevel ≤ ((closedAt s r res).standing.get ch).score then
        { s.members.get ch with state := .excluded, probationRun := 0, holdoff := s.currentHoldoff }
      else s.members.get ch := by
  rw [closedAt_members hi hres, closedAt_score hi hres, newMember, probed_of_not_probation hp]
  refine if_congr ?_ rfl rfl
  rw [claimed_iff hs hi, Weighing.isScored_iff, or_iff_right hp]

theorem closedAt_members_of_excluded (hp : s.channelState ch = .probation)
    (hle : installed.record.excludeLevel ≤ ((closedAt s r res).standing.get ch).score) :
    (closedAt s r res).members.get ch =
      { s.members.get ch with state := .excluded, probationRun := 0, holdoff := s.currentHoldoff } := by
  rw [closedAt_score hi hres] at hle
  have claim : claimed s r cfg installed ch = true := (claimed_iff hs hi).mpr ⟨by rw [hp]; rfl, hle⟩
  rw [closedAt_members hi hres, newMember, claim]
  rfl

theorem closedAt_members_of_kept
    (hlt : ((closedAt s r res).standing.get ch).score < installed.record.excludeLevel) :
    (closedAt s r res).members.get ch = probed res ch (s.members.get ch) := by
  rw [closedAt_score hi hres] at hlt
  have claim : claimed s r cfg installed ch = false := by
    rw [← Bool.not_eq_true, claimed_iff hs hi]
    exact fun h => absurd h.2 (Nat.not_le.mpr hlt)
  rw [closedAt_members hi hres, newMember, claim]
  rfl

omit hs hi hres

theorem ownStatus_of_probation (hp : s.channelState ch = .probation) : s.ownStatusIn r cfg ch = .shadowAgreed
    ∨ s.ownStatusIn r cfg ch = .shadowDissent ∨ s.ownStatusIn r cfg ch = .missing := by
  rw [← shadowStatus_classIn hp]
  cases classIn s r cfg ch with
  | missing => exact .inr (.inr rfl)
  | dissent | abstain =>
    by_cases h : roundOutcome (votesAt s r cfg) = .void
    · exact .inl (if_pos h)
    · exact .inr (.inl (if_neg h))
  | agreed | neutral => exact .inl rfl

include hres

theorem newRun_eq (hp : s.channelState ch = .probation) : newRun res ch (s.members.get ch) =
    match (s.members.get ch).admissionCycle with
    | some a =>
      if sameOrNewer r.cycle a = true ∧ (recordAt s r res).outcome ≠ .void then
        some (runAfter (s.members.get ch).probationRun
          (probationResult (recordAt s r res).outcome (classIn s r cfg ch)))
      else none
    | none => none := by
  have result := probation_resultOf s r cfg cause ch
  have cycle : res.cycle = r.cycle := congrArg RoundResult.cycle hres
  rw [if_pos hp, ← hres, ← outcome_recordAt hres] at result
  have state : (s.members.get ch).state = .probation := hp
  unfold newRun
  rw [result, cycle]
  cases (s.members.get ch).admissionCycle with
  | none => rfl
  | some a =>
    have noResult : (probationResult (recordAt s r res).outcome (classIn s r cfg ch) != .noResult) =
        decide ((recordAt s r res).outcome ≠ .void) := by
      unfold probationResult
      by_cases h : (recordAt s r res).outcome = .void
      · simp [h]
      · cases classIn s r cfg ch <;> simp [h]
    simp [state, noResult]

/-- A VOID round and one older than the admission cycle leave the run (R44). -/
theorem newRun_of_still (hp : s.channelState ch = .probation)
    (h : (recordAt s r res).outcome = .void
      ∨ ¬ ∃ a, (s.members.get ch).admissionCycle = some a ∧ sameOrNewer r.cycle a = true) :
    newRun res ch (s.members.get ch) = none := by
  rw [newRun_eq hres hp]
  split
  · next a ha =>
    refine if_neg fun hmoves => ?_
    rcases h with hvoid | hold
    · exact hmoves.2 hvoid
    · exact hold ⟨a, ha, hmoves.1⟩
  · rfl

/-- A round of its time that is not VOID moves the run by the own status that the VERDICT shows (R44). -/
theorem newRun_of_moves (hp : s.channelState ch = .probation) (hvoid : (recordAt s r res).outcome ≠ .void)
    (h : ∃ a, (s.members.get ch).admissionCycle = some a ∧ sameOrNewer r.cycle a = true) :
    newRun res ch (s.members.get ch) =
      some (if s.ownStatusIn r cfg ch = .shadowAgreed then min ((s.members.get ch).probationRun + 1) 255 else 0) := by
  obtain ⟨a, ha, htime⟩ := h
  have status := shadowStatus_classIn (r := r) (cfg := cfg) hp
  rw [newRun_eq hres hp, ha]
  dsimp only
  rw [if_pos ⟨htime, hvoid⟩, ← status, ← outcome_recordAt hres]
  cases classIn s r cfg ch <;> simp [probationResult, shadowStatus, runAfter, hvoid]

end OneClose

end Sys2Proof.Proofs.CloseSettles

open Sys2Proof.Machine Sys2Proof.Proofs Sys2Proof.Proofs.CloseSteps Sys2Proof.Proofs.CloseWhole Sys2Proof.Proofs.CloseSettles

/-- Settles O50: each recipient's VERDICT from the result of its channel, and each port's notices from the outbox. -/
theorem closeTellsEveryRecipient : Obligations.CloseTellsEveryRecipient := by
  intro s r rest cfg installed hs hr hsealed hf hi
  obtain ⟨cause, close⟩ := exec_close hr hsealed hf
  generalize hres : resultOf s r cfg cause = res at close
  have hres := hres.symm
  refine ⟨_, recordAt s r res, close, closedAt_head, fun ch => ?_⟩
  dsimp only
  rw [← receivesVerdict_iff]
  refine ⟨toldAtClose_closedAt hs hi hres ch, fun h => ?_, fun h => ?_⟩
  · exact not_recipient hs hi hres (by simpa using h)
  · obtain ⟨verdicts, dropped⟩ := recipient hs hi hres h
    exact ⟨verdictAt s r cfg res ch, verdicts, dropped, rfl, rfl, rfl, rfl, rfl, rfl,
      (closedAt_score hi hres ch).symm, rfl, rfl⟩

/-- Settles O51: the one class of each judged channel, with its weight and its counter. -/
theorem closeWeighsEachClassOnce : Obligations.CloseWeighsEachClassOnce := by
  intro s r rest cfg installed hs hr hsealed hf hi
  obtain ⟨cause, close⟩ := exec_close hr hsealed hf
  generalize hres : resultOf s r cfg cause = res at close
  have hres := hres.symm
  refine ⟨_, recordAt s r res, close, closedAt_head, fun ch => ?_⟩
  have entry : (∃ e ∈ s.window.queues.get ch, e.cycle = r.cycle) ↔ ∃ e, s.entryIn r ch = some e := by
    rw [← Option.isSome_iff_exists, State.entryIn, List.find?_isSome]
    simp
  dsimp only
  rw [entry, outcome_recordAt hres]
  refine ⟨fun hj => ?_, fun hj he => ?_, fun hj he hvoid => ?_, fun hj he hvoid => ⟨fun hd => ?_, fun hd ha => ?_,
    fun hd ha => ?_⟩, closedAt_members_of_not_probation hs hi hres⟩
  · exact closedAt_standing_of hs hi hres (newStanding_of_not_judged hj)
  · have missing := CloseDecides.classIn_of_no_entry (cfg := cfg)
      (Option.eq_none_iff_forall_ne_some.mpr fun e heq => he ⟨e, heq⟩)
    have standing := closedAt_standing_of hs hi hres (newStanding_of_weight (k := 8) hj missing rfl)
    exact standing
  · obtain ⟨e, he⟩ := he
    have standing := closedAt_standing_of hs hi hres (newStanding_of_class hj (CloseDecides.classIn_of_void he hvoid))
    exact standing
  · obtain ⟨e, he⟩ := he
    have dissent := CloseDecides.classIn_of_entry (cfg := cfg) he
    rw [if_pos hd] at dissent
    have standing := closedAt_standing_of hs hi hres (newStanding_of_weight (k := 6) hj dissent rfl)
    exact standing
  · obtain ⟨e, he⟩ := he
    have abstain := CloseDecides.classIn_of_entry (cfg := cfg) he
    rw [if_neg (not_not.mpr hd), if_pos ha] at abstain
    have standing := closedAt_standing_of hs hi hres (newStanding_of_weight (k := 1) hj abstain rfl)
    exact standing
  · obtain ⟨e, he⟩ := he
    have agreed := CloseDecides.classIn_of_entry (cfg := cfg) he
    rw [if_neg (not_not.mpr hd), if_neg (by simp [ha]), if_pos hvoid] at agreed
    have standing := closedAt_standing_of hs hi hres (newStanding_of_class hj agreed)
    rw [standing]
    congr 1
    exact weighted_sub_one (score_le hs ch)

/-- Settles O53: the probation result of the channel's class moves its run, unless the close has excluded it. -/
theorem closeMovesProbation : Obligations.CloseMovesProbation := by
  intro s r rest cfg installed ch hs hr hsealed hf hi hp
  obtain ⟨cause, close⟩ := exec_close hr hsealed hf
  generalize hres : resultOf s r cfg cause = res at close
  have hres := hres.symm
  obtain ⟨verdicts, -⟩ := recipient (ch := ch) hs hi hres (by rw [hp]; rfl)
  have rounds : res.probationRounds = cfg.record.probationRounds := congrArg RoundResult.probationRounds hres
  refine ⟨_, recordAt s r res, verdictAt s r cfg res ch, close, closedAt_head, ?_, rfl, ?_,
    toldAtClose_closedAt hs hi hres ch, closedAt_members_of_excluded hs hi hres hp, fun hlt => ⟨?_, ?_⟩⟩
  · rw [verdicts, joined]
    exact List.getLast?_concat
  · exact ownStatus_of_probation hp
  · intro hstill
    rw [closedAt_members_of_kept hs hi hres hlt, probed, newRun_of_still hres hp hstill]
  · intro hvoid htime
    rw [closedAt_members_of_kept hs hi hres hlt, probed, newRun_of_moves hres hp hvoid htime]
    rw [show (verdictAt s r cfg res ch).ownStatus = s.ownStatusIn r cfg ch from rfl]
    dsimp only
    by_cases hagreed : s.ownStatusIn r cfg ch = .shadowAgreed
    · rw [if_pos hagreed, if_pos hagreed, rounds]
    · have positive := probationRounds_pos (inForce_sound hs hf)
      rw [if_neg hagreed, if_neg hagreed, rounds, if_neg (Nat.not_le.mpr positive)]
end

section
/-! Lemmas about the agreement of the links with the Membership Table: what it says of each channel, and the operations that leave
it as it is (R33, R154, R160, R166). -/

namespace Sys2Proof.Proofs.Links

open Sys2Proof.Machine

/-! ## The agreement, channel by channel -/

/-- The port holds no frame, waiting or in transmission, and has lost no notice (R154, R160). -/
def quiet (p : Port) : Prop :=
  p.markSlot = none ∧ p.notices = [] ∧ p.verdicts = [] ∧ p.replySlot = none ∧ p.lostNotices = 0
    ∧ p.transmitter.isSending = false

/-- A port agrees with its channel's state and the level of RST_N. -/
def linkOk (pin : Level) (st : ChannelState) (p : Port) : Prop :=
  (st = .detached ↔ p.line ≠ .up) ∧ (p.line = .up ∨ quiet p) ∧ (p.transmitter = .silent ↔ pin = .low)
    ∧ (pin = .high ∨ p.line = .down)

theorem beq_eq_beq_iff {α β : Type} [DecidableEq α] [DecidableEq β] {a b : α} {c d : β} :
    ((a == b) == (c == d)) = true ↔ (a = b ↔ c = d) := by
  rw [beq_iff_eq, Bool.eq_iff_iff, beq_iff_eq, beq_iff_eq]

theorem beq_eq_bne_iff {α β : Type} [DecidableEq α] [DecidableEq β] {a b : α} {c d : β} :
    ((a == b) == (c != d)) = true ↔ (a = b ↔ c ≠ d) := by
  rw [beq_iff_eq, Bool.eq_iff_iff, beq_iff_eq, bne_iff_ne]

theorem linksAgree_iff {s : State} : s.linksAgree = true ↔
    (∀ ch, linkOk s.resetPin (s.channelState ch) (s.ports.get ch)) ∧ (s.output.link = .silent ↔ s.resetPin = .low) := by
  simp only [State.linksAgree, Bool.and_eq_true, Channel.all_all, beq_eq_beq_iff, beq_eq_bne_iff]
  simp only [Bool.or_eq_true, Bool.and_eq_true, beq_iff_eq, Option.isNone_iff_eq_none, Bool.not_eq_true', and_assoc,
    linkOk, quiet]

/-- A port keeps what the agreement reads of it, as long as its line stays what it is. -/
def sameLink (p q : Port) : Prop :=
  q.line = p.line ∧ (q.transmitter = .silent ↔ p.transmitter = .silent) ∧ (p.line = .up ∨ (quiet p → quiet q))

theorem sameLink.refl (p : Port) : sameLink p p := ⟨rfl, .rfl, .inr id⟩

theorem sameLink.trans {p q r : Port} (h : sameLink p q) (k : sameLink q r) : sameLink p r := by
  obtain ⟨line, silent, kept⟩ := h
  obtain ⟨line', silent', kept'⟩ := k
  refine ⟨line'.trans line, silent'.trans silent, ?_⟩
  rcases kept with hup | kept
  · exact .inl hup
  · rcases kept' with hup | kept'
    · exact .inl (line ▸ hup)
    · exact .inr (kept' ∘ kept)

/-- What the agreement of the links reads is the same in `t` as in `s`. -/
structure SameLinks (s t : State) : Prop where
  pin : t.resetPin = s.resetPin
  link : t.output.link = .silent ↔ s.output.link = .silent
  detached : ∀ ch, t.channelState ch = .detached ↔ s.channelState ch = .detached
  ports : ∀ ch, sameLink (s.ports.get ch) (t.ports.get ch)

theorem SameLinks.refl (s : State) : SameLinks s s := ⟨rfl, .rfl, fun _ => .rfl, fun _ => .refl _⟩

theorem SameLinks.trans {s t u : State} (h : SameLinks s t) (k : SameLinks t u) : SameLinks s u :=
  ⟨k.pin.trans h.pin, k.link.trans h.link, fun ch => (k.detached ch).trans (h.detached ch),
    fun ch => (h.ports ch).trans (k.ports ch)⟩

theorem SameLinks.linksAgree {s t : State} (h : SameLinks s t) (hs : s.linksAgree = true) : t.linksAgree = true := by
  rw [linksAgree_iff] at hs ⊢
  obtain ⟨ports, link⟩ := hs
  refine ⟨fun ch => ?_, by rw [h.link, h.pin, link]⟩
  obtain ⟨line, silent, kept⟩ := h.ports ch
  obtain ⟨detached, holds, tx, pin⟩ := ports ch
  refine ⟨by rw [h.detached, line, detached], ?_, by rw [silent, h.pin, tx], by rwa [h.pin, line]⟩
  rw [line]
  rcases holds with hup | hq
  · exact .inl hup
  · exact kept.imp id fun f => f hq

theorem SameLinks.up {s t : State} (h : SameLinks s t) {ch : Channel} (hup : (s.ports.get ch).line = .up) :
    (t.ports.get ch).line = .up := (h.ports ch).1.trans hup

/-! ## What an operation leaves -/

variable {s t : State} {l : List Block}

theorem SameLinks.of_eq (pin : t.resetPin = s.resetPin) (output : t.output.link = s.output.link)
    (members : t.members = s.members) (ports : t.ports = s.ports) : SameLinks s t :=
  ⟨pin, by rw [output], fun ch => by rw [State.channelState, State.channelState, members],
    fun ch => by rw [ports]; exact .refl _⟩

/-- An operation that leaves the pin, the members, the output and the ports alone. -/
theorem SameLinks.of_keeps (h : s.keepsAllBut t l) (hl : ∀ b ∈ [Block.resetPin, .members, .output, .ports], b ∉ l) :
    SameLinks s t :=
  .of_eq (h .resetPin (hl _ (by decide)))
    (congrArg OutputPort.link (h .output (hl _ (by decide)) : t.output = s.output))
    (h .members (hl _ (by decide))) (h .ports (hl _ (by decide)))

theorem SameLinks.foldl {α : Type} {f : State → α → State} (h : ∀ s x, SameLinks s (f s x)) (xs : List α) (s : State) :
    SameLinks s (xs.foldl f s) := by
  induction xs generalizing s with
  | nil => exact .refl s
  | cons x xs ih => exact (h s x).trans (ih _)

theorem SameLinks.modMember {ch : Channel} {f : Member → Member}
    (h : (f (s.members.get ch)).state = .detached ↔ (s.members.get ch).state = .detached) :
    SameLinks s (s.modMember ch f) := by
  refine ⟨rfl, .rfl, fun x => ?_, fun _ => .refl _⟩
  rw [State.channelState, State.channelState, State.modMember_members, PerChannel.get_set]
  split
  · next hx => rw [hx, h]
  · rfl

theorem SameLinks.modPort {ch : Channel} {f : Port → Port} (h : sameLink (s.ports.get ch) (f (s.ports.get ch))) :
    SameLinks s (s.modPort ch f) := by
  refine ⟨rfl, .rfl, fun _ => .rfl, fun x => ?_⟩
  rw [State.modPort_ports, PerChannel.get_set]
  split
  · next hx => exact hx ▸ h
  · exact .refl _

theorem SameLinks.count (ch : Channel) (name : CounterName) : SameLinks s (s.count ch name) :=
  .of_keeps (s.count_keeps ch name) (by decide)

theorem SameLinks.send (ch : Channel) (n : Notice) : SameLinks s (s.send ch n) := .of_keeps (s.send_keeps ch n) (by decide)

theorem SameLinks.refuse (ch : Channel) (k : Byte) (r : RefusalReason) : SameLinks s (s.refuse ch k r) :=
  .of_keeps (s.refuse_keeps ch k r) (by decide)

theorem SameLinks.leaveVoters (ch : Channel) (was : ChannelState) : SameLinks s (s.leaveVoters ch was) :=
  .of_keeps (s.leaveVoters_keeps ch was) (by decide)

theorem SameLinks.settleMembership (before : State) : SameLinks s (State.settleMembership before s) :=
  .of_keeps (s.settleMembership_keeps before) (by decide)

theorem SameLinks.settleNotices : SameLinks s s.settleNotices := by
  have kept := s.settleNotices_keeps
  refine ⟨kept .resetPin (by decide), ?_, fun ch => ?_, fun ch => ?_⟩
  · rw [show s.settleNotices.output = s.output from kept .output (by decide)]
  · rw [State.channelState, State.channelState, show s.settleNotices.members = s.members from kept .members (by decide)]
  · obtain ⟨draw, port⟩ := s.settleNotices_port ch
    rw [port]
    split
    · next hup =>
      have same := Port.foldl_takeNotice_sameButNotices (noticesInOrder s.outbox ch draw) (s.ports.get ch)
      rw [same]
      exact ⟨rfl, .rfl, .inl (by simpa [State.isUp] using hup)⟩
    · exact .refl _

/-! ## Exclusions and weights (R46, R101) -/

/-- An exclusion for the score leaves a channel EXCLUDED, so not DETACHED. -/
theorem SameLinks.excludeChannel {ch : Channel} (h : s.channelState ch ≠ .detached) :
    SameLinks s (s.excludeChannel .score ch) := by
  rw [Leaving.excludeChannel_eq]
  refine .trans (.trans (.modMember (f := Leaving.excludedMember .score s.currentHoldoff) ?_)
    (.trans (.count ch .exclusions) (.of_keeps (State.broadcast_keeps _ _) (by decide)))) (.leaveVoters ch _)
  exact iff_of_false (fun h => ChannelState.noConfusion h) h

theorem SameLinks.excludeAll {l : List Channel} (h : ∀ ch ∈ l, s.channelState ch ≠ .detached) :
    SameLinks s (CloseSteps.excludeAll s l) := by
  induction l generalizing s with
  | nil => exact .refl s
  | cons ch l ih =>
    have first := SameLinks.excludeChannel (h ch (List.mem_cons_self ..))
    exact first.trans (ih fun x hx => fun hd => h x (List.mem_cons_of_mem _ hx) ((first.detached x).mp hd))

theorem SameLinks.weigh (ch : Channel) (w : Int) : SameLinks s (s.weigh ch w).1 :=
  .of_keeps (s.weigh_keeps ch w) (by decide)

/-- Only a scored channel is claimed by a weight (R101, R102). -/
theorem isScored_of_weigh {ch : Channel} {w : Int} (h : (s.weigh ch w).2 = true) : (s.channelState ch).isScored = true := by
  cases hsc : (s.channelState ch).isScored with
  | true => rfl
  | false =>
    rw [State.weigh, hsc] at h
    exact absurd h Bool.false_ne_true

theorem ne_detached_of_isScored {st : ChannelState} (h : st.isScored = true) : st ≠ .detached := by
  rintro rfl
  cases h

theorem SameLinks.weighAndExclude (ch : Channel) (w : Int) : SameLinks s (s.weighAndExclude ch w) := by
  have weighed := SameLinks.weigh (s := s) ch w
  unfold State.weighAndExclude
  dsimp only
  split
  · next claimed =>
    refine weighed.trans (.trans (.excludeChannel ?_) (.settleMembership _))
    exact fun hd => ne_detached_of_isScored (isScored_of_weigh claimed) ((weighed.detached ch).mp hd)
  · exact weighed

end Sys2Proof.Proofs.Links
end

section
/-! Lemmas about the operations that leave the agreement of the links as it is: the close, the reactions to a mark, the expiries and
the requests of the controllers (R24, R76, R153). -/

namespace Sys2Proof.Proofs.Links

open Sys2Proof.Machine

variable {s : State}

/-! ## A close (R76, R98) -/

theorem SameLinks.weighClose (res : PerChannel (Option ChannelResult)) : SameLinks s (s.weighClose res).1 :=
  .of_keeps (s.weighClose_keeps res) (by decide)

/-- Only scored channels are claimed by the weights of a close (R103). -/
theorem isScored_of_mem_weighClose (res : PerChannel (Option ChannelResult)) :
    ∀ x ∈ (s.weighClose res).2, (s.channelState x).isScored = true := by
  suffices h : ∀ (l : List Channel) (acc : State × List Channel), acc.1.members = s.members →
      (∀ x ∈ acc.2, (s.channelState x).isScored = true) →
      ∀ x ∈ (l.foldl (weighClass res) acc).2, (s.channelState x).isScored = true from
    h Channel.all (s, []) rfl fun x hx => absurd hx List.not_mem_nil
  intro l
  induction l with
  | nil => exact fun acc _ claims => claims
  | cons ch l ih =>
    refine fun acc members claims => ih _ (Eq.trans (weighClass_keeps res acc ch .members (by decide)) members) ?_
    unfold weighClass
    split
    · next w name _ =>
      dsimp only
      split
      · next claimed =>
        intro x hx
        rcases List.mem_append.mp hx with hx | hx
        · exact claims x hx
        · obtain rfl := List.mem_singleton.mp hx
          have scored := isScored_of_weigh claimed
          rwa [State.channelState, State.count_members, members] at scored
      · exact claims
    · exact claims

theorem SameLinks.moveOutput (o : RoundOutcome) : SameLinks s (s.moveOutput o) := by
  have kept := s.moveOutput_keeps o
  refine .of_eq (kept .resetPin (by decide)) ?_ (kept .members (by decide)) (kept .ports (by decide))
  unfold State.moveOutput
  split
  · dsimp only
    split <;> rfl
  · rfl

theorem SameLinks.queueDecision (d : Decision) : SameLinks s (s.queueDecision d) := by
  have kept := s.queueDecision_keeps d
  refine ⟨kept .resetPin (by decide), ?_, fun ch => ?_, fun ch => ?_⟩
  · unfold State.queueDecision
    split
    · next link _ => rw [link]; exact iff_of_false (fun h => OutputLink.noConfusion h) fun h => OutputLink.noConfusion h
    · split <;> rfl
  · rw [State.channelState, State.channelState, show (s.queueDecision d).members = _ from kept .members (by decide)]
  · rw [show (s.queueDecision d).ports = _ from kept .ports (by decide)]
    exact .refl _

/-- What only an UP port takes changes no agreement while its line stays UP. -/
theorem SameLinks.modPort_of_up {ch : Channel} {f : Port → Port} (hup : (s.ports.get ch).line = .up)
    (hline : (f (s.ports.get ch)).line = .up)
    (htx : (f (s.ports.get ch)).transmitter = .silent ↔ (s.ports.get ch).transmitter = .silent) :
    SameLinks s (s.modPort ch f) := .modPort ⟨hline.trans hup.symm, htx, .inl hup⟩

theorem SameLinks.offerVerdict (ch : Channel) (v : Verdict) : SameLinks s (s.offerVerdict ch v) := by
  unfold State.offerVerdict
  split
  · next hup =>
    have line : (s.ports.get ch).line = .up := by simpa [State.isUp] using hup
    dsimp only
    split
    · exact .modPort_of_up line line .rfl
    · exact .trans (.modPort_of_up line line .rfl) (.count ch _)
  · exact .refl s

theorem SameLinks.sendVerdict (res : RoundResult) (items : List ItemResult) (ch : Channel) :
    SameLinks s (State.sendVerdict res items s ch) := by
  unfold State.sendVerdict
  split
  · exact .offerVerdict ch _
  · exact .refl s

theorem SameLinks.produce (res : RoundResult) : SameLinks s (s.produce res) := by
  unfold State.produce
  exact .trans (.queueDecision _) (.trans (.of_keeps (State.writeHistory_keeps _ _) (by decide))
    (.foldl (fun _ ch => .sendVerdict res _ ch) _ _))

theorem SameLinks.updateProbation (res : RoundResult) (ch : Channel) : SameLinks s (State.updateProbation res s ch) := by
  rw [CloseSteps.updateProbation_eq]
  refine ⟨rfl, .rfl, fun x => ?_, fun _ => .refl _⟩
  rw [State.channelState, State.channelState, PerChannel.get_set]
  split
  · next hx =>
    subst hx
    by_cases hp : (s.members.get x).state = .probation
    · rw [CloseSteps.probed]
      split
      · split <;> simp [hp]
      · rfl
    · rw [CloseSteps.probed_of_not_probation hp]
  · rfl

theorem SameLinks.closeRound (r : Round) (cause : CloseCause) : SameLinks s (s.closeRound r cause) := by
  cases hf : s.store.inForce r.cycle with
  | some cfg =>
    rw [CloseWhole.closeRound_eq hf]
    generalize CloseWhole.resultOf s r cfg cause = res
    have recorded : SameLinks s (CloseWhole.recorded s r res) := .of_keeps (CloseWhole.recorded_keeps s r res) (by decide)
    have weighed : SameLinks s (CloseWhole.weighedAt s r res).1 := recorded.trans (.weighClose _)
    have produced : SameLinks s (CloseWhole.producedAt s r res) := weighed.trans (.trans (.moveOutput _) (.produce _))
    have moved : SameLinks (CloseWhole.producedAt s r res) (CloseWhole.movedAt s r res) := by
      refine .trans (.excludeAll fun ch hch hd => ?_) (.foldl (fun _ ch => .updateProbation res ch) _ _)
      have scored := isScored_of_mem_weighClose (s := CloseWhole.recorded s r res) res.channels ch hch
      exact ne_detached_of_isScored scored ((recorded.detached ch).mpr ((produced.detached ch).mp hd))
    have settled : SameLinks (CloseWhole.movedAt s r res) (CloseWhole.settledAt s r res) := .settleMembership _
    exact produced.trans (moved.trans (settled.trans (.of_eq rfl rfl rfl rfl)))
  | none =>
    have gone : s.closeRound r cause = s.removeRound r.cycle := by rw [State.closeRound, hf]
    rw [gone]
    exact .of_keeps (s.removeRound_keeps _) (by decide)

/-! ## The reactions to a mark (R22, R24) -/

theorem SameLinks.reachTick (t : Tick) : SameLinks s (s.reachTick t) := .of_keeps (s.reachTick_keeps t) (by decide)

theorem SameLinks.openCycle : SameLinks s s.openCycle := by
  unfold State.openCycle
  split
  · exact .refl s
  · split
    · exact .refl s
    · exact .trans (.reachTick _) (.of_eq rfl rfl rfl rfl)

theorem SameLinks.capacityClose : SameLinks s s.capacityClose := by
  have counted : SameLinks s { s with part := { s.part with forcedCloses := saturate16 s.part.forcedCloses } } :=
    .of_eq rfl rfl rfl rfl
  unfold State.capacityClose
  split
  · split
    · split
      · exact counted.trans (.closeRound _ _)
      · exact .closeRound _ _
    · exact .refl s
  · exact .refl s

theorem SameLinks.windowTakesMark (c : Cycle) (deadline : Tick) : SameLinks s (s.windowTakesMark c deadline) := by
  unfold State.windowTakesMark
  split
  · exact .refl s
  · refine SameLinks.capacityClose.trans ?_
    generalize s.capacityClose = u
    let round : Round := ⟨c, deadline, u.arrivalFor c, none⟩
    have opened : SameLinks u
        { u with window := { u.window with rounds := u.window.rounds ++ [round], nextRound := some (c + 1) } } :=
      .of_eq rfl rfl rfl rfl
    exact opened.trans (.of_keeps (State.checkComplete_keeps _ _) (by decide))

theorem SameLinks.portTakesMark (ch : Channel) (c : Cycle) : SameLinks s (s.portTakesMark ch c) := by
  unfold State.portTakesMark
  split
  · next hup =>
    have line : (s.ports.get ch).line = .up := by
      rw [Bool.and_eq_true] at hup
      simpa [State.isUp] using hup.1
    unfold State.placeMark
    dsimp only
    split
    · exact .trans (.count ch _) (.modPort_of_up line line .rfl)
    · exact .modPort_of_up line line .rfl
  · exact .refl s

theorem SameLinks.membersTakeMark : SameLinks s s.membersTakeMark := by
  have stepped : ∀ (s : State) g ch, SameLinks s (State.stepCandidate g s ch) := fun s g ch => by
    unfold State.stepCandidate State.channelState
    split
    · next hc =>
      split
      · exact .modMember (by simp [hc])
      · exact .trans (.modMember (by simp [hc])) (.send ch _)
      · exact .refl s
    · exact .refl s
  unfold State.membersTakeMark State.candidateStep
  have heldOff : SameLinks s (Channel.all.foldl State.countHoldoff s) :=
    .foldl (fun s ch => .modMember (f := fun m => { m with holdoff := m.holdoff - 1 }) .rfl) _ s
  refine heldOff.trans ?_
  split
  · exact .trans (.foldl (fun s ch => stepped s _ ch) _ _) (.settleMembership _)
  · exact .refl _

theorem SameLinks.activateGroup (r : GroupRecord) : SameLinks s (s.activateGroup r) := by
  have demoted : ∀ (s : State) ch, SameLinks s (State.demote r.members s ch) := fun s ch => by
    unfold State.demote State.channelState
    dsimp only
    split
    · next hv =>
      refine .trans (.modMember (iff_of_false (fun h => ChannelState.noConfusion h) fun hd => ?_)) (.leaveVoters ch _)
      rw [hd] at hv
      exact Bool.false_ne_true hv
    · exact .refl s
  unfold State.activateGroup
  refine .trans (.foldl demoted _ s) (.trans (.excludeAll fun ch hch => ?_) (.settleMembership _))
  have scored := (List.mem_filter.mp hch).2
  simp only [Bool.and_eq_true] at scored
  exact ne_detached_of_isScored scored.1.1

theorem SameLinks.storeTakesMark (c : Cycle) : SameLinks s (s.storeTakesMark c) := by
  have activated : ∀ w, SameLinks s (s.activate w) := fun w => by
    have kind : ∀ u : State, SameLinks u (u.activateKind w) := fun u => by
      unfold State.activateKind
      split
      · exact .activateGroup _
      · have schema : SameLinks u { u with store := u.store.activateSchema w.config.firstCycle } := .of_eq rfl rfl rfl rfl
        exact schema.trans (.of_keeps (State.recomputeGroup_keeps _) (by decide))
      · next ch _ =>
        have pardoned : SameLinks u (u.modMember ch fun m => { m with holdoff := 0 }) := .modMember .rfl
        exact pardoned.trans (.of_keeps (State.modStanding_keeps _ _ _) (by decide))
    have installed : SameLinks s (s.install w).dropCommitted := .of_eq rfl rfl rfl rfl
    exact installed.trans ((kind _).trans (.of_keeps (State.broadcast_keeps _ _) (by decide)))
  unfold State.storeTakesMark
  split
  · split
    · exact activated _
    · exact .refl s
  · exact .refl s

theorem SameLinks.takeMark (b : MarkTaker) : SameLinks s (s.takeMark b) := by
  unfold State.takeMark
  split
  · next o rest _ =>
    refine .trans (t := { s with timer := { s.timer with offers := rest } }) (.of_eq rfl rfl rfl rfl)
      (.trans ?_ .settleNotices)
    unfold State.react
    split
    · exact .windowTakesMark _ _
    · exact .portTakesMark _ _
    · exact .membersTakeMark
    · exact .of_keeps (State.changesTakeMark_keeps _ _) (by decide)
    · exact .storeTakesMark _
  · exact .refl s

/-! ## Expiries (R28, R72, R143) -/

theorem SameLinks.expireDeadline (c : Cycle) : SameLinks s (s.expireDeadline c) := by
  unfold State.expireDeadline
  split
  · exact .refl s
  · exact .trans (.reachTick _) (.of_eq rfl rfl rfl rfl)

theorem SameLinks.voidEntry (k : Nat) (reason : VoidReason) (ticket : Byte) : SameLinks s (s.voidEntry k reason ticket) :=
  .of_keeps (s.voidEntry_keeps k reason ticket) (by decide)

theorem SameLinks.reachFoundingExpiry (ticket : Byte) : SameLinks s (s.reachFoundingExpiry ticket) := by
  unfold State.reachFoundingExpiry
  split
  · exact .refl s
  · next e _ =>
    have dropped : SameLinks s ((s.reachTick e.tick).dropFoundingExpiry ticket) :=
      (SameLinks.reachTick e.tick).trans (.of_keeps (State.dropFoundingExpiry_keeps _ _) (by decide))
    refine dropped.trans ?_
    unfold State.expireFounding
    split
    · exact .voidEntry _ _ _
    · exact .refl _

end Sys2Proof.Proofs.Links
end

section
/-! Lemmas about what brings a line up or down, or RST_N, and about the requests: what each leaves of the agreement of the links
(R31, R35 to R37, R147 to R154, R160, R175). -/

namespace Sys2Proof.Proofs.Links

open Sys2Proof.Machine

variable {s : State}

/-! ## The requests of a controller (R153) -/

theorem SameLinks.takeAnnounce {ch : Channel} (h : s.channelState ch ≠ .detached) (p : List Byte) :
    SameLinks s (s.takeAnnounce ch p) := by
  unfold State.takeAnnounce
  split
  · exact .refuse ch _ _
  · next a _ =>
    split
    · exact .refuse ch _ _
    · have admitted : a.role.admittedState ≠ .detached := by cases a.role <;> exact fun h => ChannelState.noConfusion h
      have enrolled : SameLinks s (s.modMember ch fun m =>
          { m with
            state := a.role.admittedState, announcement := some a
            admissionCycle := s.timer.running.map (·.nextCycle), probationRun := 0 }) :=
        .modMember (iff_of_false admitted h)
      exact enrolled.trans (.trans (.of_keeps (State.modStanding_keeps _ _ _) (by decide))
        (.trans (.count ch _) (.send ch _)))

theorem SameLinks.takeLeave (ch : Channel) : SameLinks s (s.takeLeave ch) := by
  unfold State.takeLeave State.channelState
  dsimp only
  split
  · exact .refuse ch _ _
  · split
    · next hv =>
      have left : SameLinks s (s.modMember ch fun m => { m with state := .linked, probationRun := 0 }) :=
        .modMember (iff_of_false (fun h => ChannelState.noConfusion h) fun hd => by
          rw [hd] at hv
          exact Bool.false_ne_true hv)
      split
      · exact left.trans (.trans (.leaveVoters ch _) (.settleMembership _))
      · exact left
    · exact .refuse ch _ _

theorem SameLinks.takeProposal (ch : Channel) (p : List Byte) : SameLinks s (s.takeProposal ch p) := by
  have counted : ∀ n, SameLinks s (s.count ch n) := fun n => .count ch n
  have weighed : ∀ n w, SameLinks s ((s.count ch n).weighAndExclude ch w) := fun n w =>
    (counted n).trans (.weighAndExclude ch w)
  unfold State.takeProposal
  split
  · exact counted _
  · split
    · exact weighed _ _
    · exact counted _
    · unfold State.sortProposal
      dsimp only
      split
      · exact weighed _ _
      · exact counted _
      · split
        · exact weighed _ _
        · split
          · exact weighed _ _
          · split
            · exact counted _
            · split
              · exact counted _
              · exact .of_eq rfl rfl rfl rfl

theorem SameLinks.takeChange (ch : Channel) (p : List Byte) : SameLinks s (s.takeChange ch p) := by
  unfold State.takeChange
  split
  · exact .refuse ch _ _
  · split
    · exact .refuse ch _ _
    · split
      · exact .refuse ch _ _
      · unfold State.createEntry
        dsimp only
        split <;> exact .of_eq rfl rfl rfl rfl

theorem SameLinks.voidOthers (ticket : Byte) (reason : VoidReason) : SameLinks s (s.voidOthers ticket reason) := by
  unfold State.voidOthers
  exact .foldl (fun u (e : ChangeEntry) => SameLinks.voidEntry (s := u) 1 reason e.ticket) _ s

theorem SameLinks.commitFound (e : ChangeEntry) (r : GroupRecord) (items : List SchemaItem) :
    SameLinks s (s.commitFound e r items) := by
  refine SameLinks.trans (.voidOthers e.ticket .superseded) ?_
  unfold State.commitFound
  generalize s.voidOthers e.ticket .superseded = u
  exact .of_eq rfl rfl rfl rfl

/-- A DISSOLVE takes every channel to LINKED but the DETACHED ones (R56). -/
theorem SameLinks.commitDissolve (e : ChangeEntry) : SameLinks s (s.commitDissolve e) := by
  refine SameLinks.trans (.voidOthers e.ticket .dissolved) ?_
  unfold State.commitDissolve
  generalize s.voidOthers e.ticket .dissolved = u
  refine ⟨rfl, .rfl, fun ch => ?_, fun _ => .refl _⟩
  have state : ((PerChannel.build fun ch => (u.members.get ch).dissolved).get ch).state =
      if u.channelState ch = .detached then .detached else .linked := by
    rw [PerChannel.get_build]
    rfl
  refine Eq.congr_left state |>.trans ?_
  split
  · next h => exact iff_of_true rfl h
  · next h => exact iff_of_false (fun h => ChannelState.noConfusion h) h

theorem SameLinks.commitChange (e : ChangeEntry) : SameLinks s (s.commitChange e) := by
  unfold State.commitChange
  split
  · next cfg run _ _ =>
    dsimp only
    split
    · next w _ =>
      have awaiting : SameLinks s (State.modEntry { s with store := { s.store with awaiting := some w } } e.ticket
          fun e => { e with state := .committed (run.nextCycle + 1), expiry := none }) := .of_eq rfl rfl rfl rfl
      exact awaiting.trans (.trans (.voidOthers _ _) (.of_eq rfl rfl rfl rfl))
    · exact .refl s
  · exact .refl s

theorem SameLinks.commit (e : ChangeEntry) : SameLinks s (s.commit e) := by
  unfold State.commit
  split
  · exact .commitFound e _ _
  · exact .commitDissolve e
  all_goals exact .commitChange e

theorem SameLinks.takeConcur (ch : Channel) (p : List Byte) : SameLinks s (s.takeConcur ch p) := by
  unfold State.takeConcur
  dsimp only
  split
  · exact .refuse ch _ _
  · next e _ =>
    split
    · exact .refuse ch _ _
    · split
      · exact .refuse ch _ _
      · split
        · exact .refuse ch _ _
        · have joined : SameLinks s ((s.modEntry e.ticket fun _ =>
              { e with concurrence := e.concurrence.set ch true }).broadcastAt 0
                (.concurred e.ticket (ChannelSet.card (e.concurrence.set ch true)))) := .of_eq rfl rfl rfl rfl
          unfold State.addConcurrence
          dsimp only
          split
          · exact joined.trans (.commit _)
          · exact joined

theorem SameLinks.takeRetract (ch : Channel) (p : List Byte) : SameLinks s (s.takeRetract ch p) := by
  unfold State.takeRetract
  split
  · exact .refuse ch _ _
  · split
    · exact .refuse ch _ _
    · exact .voidEntry _ _ _

theorem SameLinks.takeRead {ch : Channel} (hup : (s.ports.get ch).line = .up) (p : List Byte) :
    SameLinks s (s.takeRead ch p) := by
  unfold State.takeRead
  split
  · exact .refuse ch _ _
  · next f _ =>
    split
    · exact .refuse ch _ _
    · have answered : SameLinks s (s.modPort ch fun p =>
          { p with replySlot := some ⟨f.view, f.argument, s.store.currentEpoch, s.snapshot f⟩ }) :=
        .modPort_of_up hup hup .rfl
      unfold State.answerRead
      dsimp only
      split
      · exact answered.trans (.of_keeps (State.modStanding_keeps _ _ _) (by decide))
      · exact answered

theorem SameLinks.takeUnknown (ch : Channel) (kind : Byte) : SameLinks s (s.takeUnknown ch kind) :=
  .trans (.count ch _) (.refuse ch _ _)

/-- What hands a good frame of an UP port to the owner of its kind leaves the links as they are. -/
def keepsLinks (ch : Channel) (hand : State → State) : Prop :=
  ∀ u : State, u.linksAgree = true → (u.ports.get ch).line = .up → (hand u).linksAgree = true

theorem keepsLinks_of (ch : Channel) {hand : State → State}
    (h : ∀ u : State, u.channelState ch ≠ .detached → (u.ports.get ch).line = .up → SameLinks u (hand u)) :
    keepsLinks ch hand := fun u hu hup => by
  have detached := (linksAgree_iff.mp hu).1 ch
  exact (h u (fun hd => detached.1.mp hd hup) hup).linksAgree hu

theorem keepsLinks_handOver (ch : Channel) (kind : Byte) (payload : List Byte) :
    keepsLinks ch (State.handOver ch kind payload) := keepsLinks_of ch fun u hd hup => by
  unfold State.handOver
  split_ifs
  · exact .takeAnnounce hd _
  · exact .takeLeave ch
  · exact .takeProposal ch _
  · exact .takeChange ch _
  · exact .takeConcur ch _
  · exact .takeRetract ch _
  · exact .takeRead hup _
  · exact .takeUnknown ch _

end Sys2Proof.Proofs.Links
end

section
/-! Lemmas about what brings a line up or down, and RST_N (R31, R35 to R37, R147 to R154, R160, R175), and what every step leaves of
the agreement of the links. -/

namespace Sys2Proof.Proofs.Links

open Sys2Proof.Machine

variable {s : State} {ch : Channel}

/-! ## A line that comes up or goes down (R35 to R37, R154) -/

/-- A change at one channel alone. -/
theorem linksAgree_of_one {t : State} (hs : s.linksAgree = true) (pin : t.resetPin = s.resetPin)
    (link : t.output.link = s.output.link) (own : linkOk s.resetPin (t.channelState ch) (t.ports.get ch))
    (others : ∀ x, x ≠ ch → t.channelState x = s.channelState x ∧ t.ports.get x = s.ports.get x) :
    t.linksAgree = true := by
  rw [linksAgree_iff] at hs ⊢
  obtain ⟨ports, silent⟩ := hs
  refine ⟨fun x => ?_, by rw [link, pin, silent]⟩
  rw [pin]
  by_cases hx : x = ch
  · rwa [hx]
  · obtain ⟨state, port⟩ := others x hx
    rw [state, port]
    exact ports x

/-- What the collector and the runs of a port are makes no difference. -/
theorem SameLinks.modReceiver (f : Port → Port)
    (h : ∀ p, f p = { p with receiver := (f p).receiver, huntRun := (f p).huntRun, badRun := (f p).badRun }) :
    SameLinks s (s.modPort ch f) := by
  refine .modPort ?_
  rw [h]
  exact ⟨rfl, .rfl, .inr id⟩

theorem SameLinks.reopenFrame : SameLinks s (s.reopenFrame ch) := .modReceiver _ fun _ => rfl

/-- A channel whose link is lost is DETACHED, and no other channel's state changes (R36, R37). -/
theorem linkLoss_channelState (x : Channel) :
    (s.linkLoss ch).channelState x = if x = ch then .detached else s.channelState x := by
  have detached : ∀ (m : Member) (u : State), u.members = s.members.set ch m → m.state = .detached →
      u.channelState x = if x = ch then .detached else s.channelState x := fun m u hu hm => by
    rw [State.channelState, hu, PerChannel.get_set]
    split
    · exact hm
    · rfl
  cases hst : s.channelState ch with
  | candidate | probation | voting =>
    have loss : s.linkLoss ch = State.settleMembership s (s.excludeChannel .linkLost ch) := by
      rw [State.linkLoss, hst]
    rw [loss]
    refine detached (Leaving.excludedMember .linkLost s.currentHoldoff (s.members.get ch)) _ ?_ rfl
    rw [show (State.settleMembership _ _).members = _ from State.settleMembership_keeps _ _ .members (by decide),
      Leaving.excludeChannel_eq, State.leaveVoters_keeps _ _ _ .members (by decide)]
    rfl
  | linked | observer | excluded =>
    unfold State.linkLoss
    rw [hst]
    dsimp only
    refine detached { s.members.get ch with state := .detached, probationRun := 0 } _ ?_ rfl
    split
    · rw [State.depart_keeps _ _ _ .members (by decide)]
      rfl
    · rfl
  | detached =>
    have loss : s.linkLoss ch = s := by rw [State.linkLoss, hst]
    rw [loss]
    split
    · next hx => rw [hx, hst]
    · rfl

/-- A port that leaves UP holds no frame, and its channel is DETACHED (R154). -/
theorem linksAgree_leaveUp (hs : s.linksAgree = true) (hpin : s.resetPin = .high) {line : LineState} (hline : line ≠ .up) :
    (s.leaveUp ch line).linksAgree = true := by
  obtain ⟨-, -, tx, -⟩ := (linksAgree_iff.mp hs).1 ch
  have kept := s.leaveUp_keeps ch line
  have ports : (s.leaveUp ch line).ports =
      s.ports.set ch { (s.ports.get ch).leaveUp with line := line, huntRun := 0, badRun := 0 } := by
    unfold State.leaveUp
    rw [State.linkLoss_keeps _ _ .ports (by decide)]
    split <;> rfl
  have state : ∀ x, (s.leaveUp ch line).channelState x = if x = ch then .detached else s.channelState x := fun x => by
    unfold State.leaveUp
    rw [linkLoss_channelState]
    split
    · rfl
    · split <;> rfl
  refine linksAgree_of_one (ch := ch) hs (kept .resetPin (by decide))
    (congrArg OutputPort.link (kept .output (by decide) : _ = s.output)) ?_ fun x hx => ?_
  · rw [state, if_pos rfl, ports, PerChannel.get_set_same]
    refine ⟨iff_of_true rfl hline, .inr ⟨rfl, rfl, rfl, rfl, rfl, ?_⟩, Iff.trans ?_ tx, .inl hpin⟩
    · change Transmitter.isSending (match (s.ports.get ch).transmitter with | .frame _ => .abandoned | t => t) = false
      cases (s.ports.get ch).transmitter <;> rfl
    · change (match (s.ports.get ch).transmitter with | .frame _ => Transmitter.abandoned | t => t) = .silent ↔ _
      cases (s.ports.get ch).transmitter <;> simp
  · rw [state, if_neg hx, ports, PerChannel.get_set_other _ hx]
    exact ⟨rfl, rfl⟩

theorem linksAgree_goodInHunt (hs : s.linksAgree = true) (hpin : s.resetPin = .high)
    (hline : (s.ports.get ch).line = .hunt) : (s.goodInHunt ch).linksAgree = true := by
  have counted := SameLinks.count (s := s) ch .framesGood
  unfold State.goodInHunt
  dsimp only
  split
  · exact (counted.trans (.modReceiver _ fun _ => rfl)).linksAgree hs
  · obtain ⟨detached, -, tx, -⟩ := (linksAgree_iff.mp hs).1 ch
    have state : (s.members.get ch).state = .detached := detached.mpr (by rw [hline]; decide)
    refine linksAgree_of_one (ch := ch) hs rfl rfl ?_ fun x hx => ?_
    · refine ⟨iff_of_false ?_ ?_, .inl ?_, ?_, .inl hpin⟩
      · simp only [State.linkUp, State.channelState, State.modMember_members, PerChannel.get_set_same,
          State.modPort_members, State.count_members, state, if_true]
        by_cases hz : (s.members.get ch).holdoff = 0 <;> simp [hz]
      · simp [State.linkUp]
      · simp [State.linkUp]
      · simpa [State.linkUp] using tx
    · simp [State.linkUp, State.channelState, PerChannel.get_set_other _ hx]

theorem linksAgree_badInHunt (hs : s.linksAgree = true) : (s.badInHunt ch).linksAgree = true :=
  (SameLinks.trans (.count ch .framesBad) (.modReceiver _ fun _ => rfl)).linksAgree hs

/-! ## Frames judged (R150 to R153) -/

theorem linksAgree_judgedBad (hs : s.linksAgree = true) (hpin : s.resetPin = .high) :
    (s.judgedBad ch).linksAgree = true := by
  unfold State.judgedBad
  split
  · exact hs
  · exact linksAgree_badInHunt hs
  · have weighed : SameLinks s ((s.count ch .framesBad).weighAndExclude ch 2) :=
      (SameLinks.count ch .framesBad).trans (.weighAndExclude ch 2)
    unfold State.badInUp
    dsimp only
    split
    · exact (weighed.trans (.modReceiver _ fun _ => rfl)).linksAgree hs
    · exact linksAgree_leaveUp (weighed.linksAgree hs) (weighed.pin.trans hpin) (by decide)

theorem linksAgree_judgedGood (hs : s.linksAgree = true) (hpin : s.resetPin = .high) {hand : State → State}
    (hhand : keepsLinks ch hand) : (s.judgedGood ch hand).linksAgree = true := by
  unfold State.judgedGood
  split
  · exact hs
  · next hline => exact linksAgree_goodInHunt hs hpin hline
  · next hline =>
    have heard : SameLinks s ((s.count ch .framesGood).modPort ch fun p => { p with badRun := 0 }) :=
      (SameLinks.count ch .framesGood).trans (.modReceiver _ fun _ => rfl)
    exact hhand _ (heard.linksAgree hs) (heard.up hline)

theorem linksAgree_settleNotices (hs : s.linksAgree = true) : s.settleNotices.linksAgree = true :=
  SameLinks.settleNotices.linksAgree hs

theorem pin_of_receiving (h : s.receiving = true) : s.resetPin = .high := by simpa [State.receiving] using h

theorem linksAgree_receiveGood (hs : s.linksAgree = true) {hand : State → State} (hhand : keepsLinks ch hand) :
    (s.receiveGood ch hand).linksAgree = true := by
  unfold State.receiveGood
  split
  · next h =>
    rw [Bool.and_eq_true] at h
    exact linksAgree_settleNotices
      (linksAgree_judgedGood (SameLinks.reopenFrame.linksAgree hs) (pin_of_receiving h.1) hhand)
  · exact hs

theorem linksAgree_abortFrame (hs : s.linksAgree = true) (hpin : s.resetPin = .high) :
    (s.abortFrame ch).linksAgree = true := by
  have seeking : SameLinks s (s.modPort ch fun p => { p with receiver := .seeking }) := .modReceiver _ fun _ => rfl
  exact linksAgree_judgedBad (seeking.linksAgree hs) hpin

theorem linksAgree_collect (hs : s.linksAgree = true) (hpin : s.resetPin = .high) (b : RxByte) :
    (s.collect ch b).linksAgree = true := by
  have reopened : (s.reopenFrame ch).linksAgree = true := SameLinks.reopenFrame.linksAgree hs
  unfold State.collect
  split
  · split
    · exact reopened
    · exact hs
  · split
    · split
      · exact reopened
      · unfold State.endFrame
        dsimp only
        split
        · exact linksAgree_judgedGood reopened hpin (keepsLinks_handOver ch _ _)
        · exact linksAgree_judgedBad reopened hpin
    · split
      · exact linksAgree_abortFrame hs hpin
      · exact (SameLinks.modReceiver _ fun _ => rfl).linksAgree hs

/-- A line that is not UP, and does not become it, may change while RST_N is high. -/
theorem linksAgree_line (hs : s.linksAgree = true) (hpin : s.resetPin = .high) (hline : (s.ports.get ch).line ≠ .up)
    {f : Port → Port} (hf : (f (s.ports.get ch)).line ≠ .up) (hquiet : quiet (s.ports.get ch) → quiet (f (s.ports.get ch)))
    (htx : (f (s.ports.get ch)).transmitter = (s.ports.get ch).transmitter) : (s.modPort ch f).linksAgree = true := by
  obtain ⟨detached, holds, tx, -⟩ := (linksAgree_iff.mp hs).1 ch
  refine linksAgree_of_one (ch := ch) hs rfl rfl ?_ fun x hx => ⟨rfl, ?_⟩
  · rw [State.modPort_ports, PerChannel.get_set_same]
    exact ⟨iff_of_true (detached.mpr hline) hf, .inr (hquiet (holds.resolve_left hline)), by rw [htx, tx], .inl hpin⟩
  · rw [State.modPort_ports, PerChannel.get_set_other _ hx]

theorem linksAgree_receiveByte (hs : s.linksAgree = true) (b : RxByte) : (s.receiveByte ch b).linksAgree = true := by
  unfold State.receiveByte
  split
  · next h =>
    split
    · next hline => exact linksAgree_line hs (pin_of_receiving h) (by rw [hline]; decide) (fun h => LineState.noConfusion h) id rfl
    all_goals exact linksAgree_settleNotices (linksAgree_collect hs (pin_of_receiving h) b)
  · exact hs

theorem linksAgree_quietLine (hs : s.linksAgree = true) : (s.quietLine ch).linksAgree = true := by
  have seeking : SameLinks s (s.modPort ch fun p => { p with receiver := .seeking, huntRun := 0, badRun := 0 }) :=
    .modReceiver _ fun _ => rfl
  have agrees := seeking.linksAgree hs
  unfold State.quietLine
  split
  · next h =>
    have hpin := pin_of_receiving h
    dsimp only
    split
    · exact linksAgree_settleNotices (linksAgree_leaveUp agrees hpin (by decide))
    all_goals
      next hline =>
      refine linksAgree_line agrees hpin ?_ (fun h => LineState.noConfusion h) id rfl
      rw [(seeking.ports ch).1, hline]
      decide
  · exact hs

/-! ## The transmit sides (R123, R155) -/

/-- The choice of a transmitter that is not silent leaves no frame where none was, and is not silent. -/
theorem sameLink_choose {p : Port} (hp : p.line = .up ∨ quiet p) (htx : p.transmitter ≠ .silent) : sameLink p p.choose := by
  have line : p.choose.line = p.line := by
    unfold Port.choose Port.noticeTaken
    split <;> try rfl
    split <;> rfl
  have sounding : p.choose.transmitter ≠ .silent := by
    unfold Port.choose
    split <;> exact fun h => Transmitter.noConfusion h
  refine ⟨line, iff_of_false sounding htx, hp.imp id fun hq _ => ?_⟩
  obtain ⟨mark, notices, verdicts, reply, lost, -⟩ := hq
  have fill : p.choose = { p with transmitter := .fill } := by simp only [Port.choose, mark, notices, verdicts, reply]
  rw [fill]
  exact ⟨mark, notices, verdicts, reply, lost, rfl⟩

theorem linksAgree_choose (hs : s.linksAgree = true) (htx : (s.ports.get ch).transmitter ≠ .silent) :
    (s.modPort ch Port.choose).linksAgree = true :=
  (SameLinks.modPort (sameLink_choose ((linksAgree_iff.mp hs).1 ch).2.1 htx)).linksAgree hs

/-! ## RST_N (R31, R160, R175) -/

theorem linkOk_poweredOff (pin : Level) : linkOk pin .detached
    { Port.reset with transmitter := if pin = .high then .fill else .silent } := by
  cases pin <;> simp [linkOk, quiet, Port.reset, Transmitter.isSending]

theorem linksAgree_poweredOn (level : Level) : (s.poweredOn level).linksAgree = true := by
  rw [linksAgree_iff]
  refine ⟨fun ch => ?_, ?_⟩
  · simp only [State.poweredOn, State.channelState, State.reset, PerChannel.get_fill]
    exact linkOk_poweredOff level
  · cases level <;> simp [State.poweredOn]

theorem linksAgree_resetStart : s.resetStart.linksAgree = true := by
  rw [linksAgree_iff]
  refine ⟨fun ch => ?_, by simp [State.resetStart]⟩
  simp only [State.resetStart, State.channelState, PerChannel.get_fill]
  exact linkOk_poweredOff .low

theorem linksAgree_resetEnd (hs : s.linksAgree = true) (hpin : s.resetPin = .low) : s.resetEnd.linksAgree = true := by
  rw [linksAgree_iff] at hs ⊢
  refine ⟨fun ch => ?_, by simp [State.resetEnd]⟩
  obtain ⟨detached, holds, -, down⟩ := hs.1 ch
  have line : (s.ports.get ch).line = .down := down.resolve_left (by rw [hpin]; decide)
  obtain ⟨mark, notices, verdicts, reply, lost, -⟩ := holds.resolve_left (by rw [line]; decide)
  simp only [State.resetEnd, State.channelState, PerChannel.get_build]
  exact ⟨detached, .inr ⟨mark, notices, verdicts, reply, lost, rfl⟩,
    iff_of_false (fun h => Transmitter.noConfusion h) (fun h => Level.noConfusion h), .inl rfl⟩

/-! ## Every command and every step -/

/-- Where an outcome is a next state, its links agree. -/
def nextAgrees (o : Host.Outcome State Fault Refusal) : Prop := ∀ t, o = .next t → t.linksAgree = true

theorem nextAgrees_next (h : s.linksAgree = true) : nextAgrees (.next s) := fun _ ht => Host.Outcome.next.inj ht ▸ h

theorem nextAgrees_exec (i : Instr) (hs : s.linksAgree = true) : nextAgrees (exec i s) := by
  have unchanged : nextAgrees (.next s) := nextAgrees_next hs
  cases i with
  | powerOn resetHigh => exact nextAgrees_next <| linksAgree_poweredOn _
  | warmReset =>
    change nextAgrees (execWarmReset s)
    unfold execWarmReset
    split
    · exact nextAgrees_next <| linksAgree_resetStart
    · exact unchanged
  | resetRelease =>
    change nextAgrees (execResetRelease s)
    unfold execResetRelease
    split
    · next hpin => exact nextAgrees_next <| linksAgree_resetEnd hs hpin
    · exact unchanged
  | mark event =>
    cases event with
    | opens takers =>
      have opened : SameLinks s s.takeOwed.openCycle := .trans (.foldl (fun _ b => .takeMark b) _ s) .openCycle
      exact nextAgrees_next <| (opened.trans (.foldl (fun _ b => .takeMark b) takers _)).linksAgree hs
    | takes takers =>
      exact nextAgrees_next <| (SameLinks.foldl (fun _ b => .takeMark b) takers s).linksAgree hs
  | deadlineExpiry cycle => exact nextAgrees_next <| (SameLinks.expireDeadline cycle).linksAgree hs
  | foundingExpiry ticket =>
    exact nextAgrees_next <| (SameLinks.trans (.reachFoundingExpiry ticket) .settleNotices).linksAgree hs
  | lineActivity ch byte => exact nextAgrees_next <| linksAgree_receiveByte hs byte
  | lineQuiet ch => exact nextAgrees_next <| linksAgree_quietLine hs
  | huntFrame ch good =>
    change nextAgrees (execHuntFrame ch good s)
    unfold execHuntFrame
    have reopened := SameLinks.reopenFrame (s := s) (ch := ch)
    split
    · next hunting =>
      simp only [Bool.and_eq_true, beq_iff_eq] at hunting
      cases good with
      | true =>
        exact nextAgrees_next <| linksAgree_goodInHunt (reopened.linksAgree hs) (pin_of_receiving hunting.1)
          ((reopened.ports ch).1.trans hunting.2)
      | false => exact nextAgrees_next <| linksAgree_badInHunt (reopened.linksAgree hs)
    · exact unchanged
  | badFrame ch =>
    change nextAgrees (execBadFrame ch s)
    unfold execBadFrame
    split
    · next active =>
      rw [Bool.and_eq_true] at active
      exact nextAgrees_next <| linksAgree_settleNotices
        (linksAgree_judgedBad (SameLinks.reopenFrame.linksAgree hs) (pin_of_receiving active.1))
    · exact unchanged
  | frameAbort ch =>
    change nextAgrees (execFrameAbort ch s)
    unfold execFrameAbort
    split
    · next active =>
      rw [Bool.and_eq_true] at active
      exact nextAgrees_next <| linksAgree_settleNotices (linksAgree_abortFrame hs (pin_of_receiving active.1))
    · exact unchanged
  | announce ch payload =>
    exact nextAgrees_next <| linksAgree_receiveGood hs (keepsLinks_of ch fun _ hd _ => .takeAnnounce hd payload)
  | leave ch payload =>
    exact nextAgrees_next <| linksAgree_receiveGood hs (keepsLinks_of ch fun _ _ _ => .takeLeave ch)
  | proposal ch payload =>
    exact nextAgrees_next <| linksAgree_receiveGood hs (keepsLinks_of ch fun _ _ _ => .takeProposal ch payload)
  | change ch payload =>
    exact nextAgrees_next <| linksAgree_receiveGood hs (keepsLinks_of ch fun _ _ _ => .takeChange ch payload)
  | concur ch payload =>
    exact nextAgrees_next <| linksAgree_receiveGood hs (keepsLinks_of ch fun _ _ _ => .takeConcur ch payload)
  | retract ch payload =>
    exact nextAgrees_next <| linksAgree_receiveGood hs (keepsLinks_of ch fun _ _ _ => .takeRetract ch payload)
  | read ch payload =>
    exact nextAgrees_next <| linksAgree_receiveGood hs (keepsLinks_of ch fun _ _ hup => .takeRead hup payload)
  | unknownKind ch kind =>
    change nextAgrees (execUnknownKind ch kind s)
    unfold execUnknownKind
    split
    · exact unchanged
    · exact nextAgrees_next <| linksAgree_receiveGood hs (keepsLinks_of ch fun _ _ _ => .takeUnknown ch kind)
  | transmissionEnd ch =>
    change nextAgrees (execTransmissionEnd ch s)
    unfold execTransmissionEnd
    split
    · next sending =>
      refine nextAgrees_next <| linksAgree_choose hs fun silent => ?_
      rw [silent] at sending
      exact Bool.false_ne_true sending
    · exact unchanged
  | transmitChoice ch =>
    change nextAgrees (execTransmitChoice ch s)
    unfold execTransmitChoice
    split
    · next free =>
      refine nextAgrees_next <| linksAgree_choose hs fun silent => ?_
      rw [Port.isFree, silent] at free
      exact absurd free (by decide)
    · exact unchanged
  | outputTransmissionEnd =>
    change nextAgrees (execOutputTransmissionEnd s)
    unfold execOutputTransmissionEnd
    split
    · next d link =>
      have next : SameLinks s { s with output := s.output.nextFrame } := by
        refine ⟨rfl, ?_, fun _ => .rfl, fun _ => .refl _⟩
        rw [link]
        refine iff_of_false ?_ fun h => OutputLink.noConfusion h
        simp only [OutputPort.nextFrame]
        split <;> exact fun h => OutputLink.noConfusion h
      exact nextAgrees_next <| next.linksAgree hs
    all_goals exact unchanged
  | close =>
    change nextAgrees (execClose s)
    unfold execClose
    split
    · exact nextAgrees_next <| (SameLinks.trans (.closeRound _ _) .settleNotices).linksAgree hs
    · exact unchanged

end Sys2Proof.Proofs.Links

open Sys2Proof.Machine Sys2Proof.Proofs.Links

/-- Settles O60, command by command (`nextAgrees_exec`); the draw of an event and a tick touch no link. -/
theorem stepKeepsLinksAgree : Obligations.StepKeepsLinksAgree := by
  intro s t hs h
  unfold step at h
  split at h
  · next c rest _ =>
    have rest : SameLinks s { s with pending := rest } := .of_eq rfl rfl rfl rfl
    exact nextAgrees_exec c (rest.linksAgree hs) t h
  · unfold idle at h
    split at h
    · have ticked : SameLinks s s.tick := .of_eq rfl rfl rfl rfl
      exact Host.Outcome.next.inj h ▸ ticked.linksAgree hs
    · exact nextAgrees_exec _ hs t h
    · have drawn : SameLinks s { s with freeCount := s.freeCount + 1 } := .of_eq rfl rfl rfl rfl
      exact nextAgrees_exec _ (drawn.linksAgree hs) t h
end

section
/-! Lemmas about the Round Window's own events: a mark with room for a round, and a deadline (R68, R70, R72). -/

namespace Sys2Proof.Proofs.RoundWindow

open Sys2Proof.Machine Sys2Proof.Proofs.CycleTimer

variable (s : State)

/-! ## A mark (R68, R69) -/

/-- With fewer than four rounds present none is closed at a mark (R69). -/
theorem capacityClose_of_room (h : s.window.rounds.length ≤ 3) : s.capacityClose = s := by
  unfold State.capacityClose
  split
  · next r rest hr =>
    rw [hr, List.length_cons] at h
    exact if_neg (by omega)
  · rfl

theorem arrivalFor_get (c : Cycle) (ch : Channel) :
    (s.arrivalFor c).get ch = (s.window.queues.get ch).any fun e => e.cycle == c := by
  rw [State.arrivalFor, PerChannel.get_build, entryFor, Bool.eq_iff_iff, List.find?_isSome, List.any_eq_true]

/-- The part with the round of a mark in its window: OPEN, or sealed at once (R68, R70). -/
def withRound (s : State) (c : Cycle) (deadline : Tick) : State :=
  { s with
    window := { s.window with
      rounds := s.window.rounds ++ [Round.checked s.votingSet ⟨c, deadline, s.arrivalFor c, none⟩]
      nextRound := some (c + 1) } }

/-- The completeness check that follows the opening of a round reaches that round alone (R70). -/
theorem checkComplete_opened {c : Cycle} {deadline : Tick} (hother : ∀ r ∈ s.window.rounds, r.cycle ≠ c) :
    State.checkComplete
      { s with window := { s.window with
          rounds := s.window.rounds ++ [⟨c, deadline, s.arrivalFor c, none⟩], nextRound := some (c + 1) } }
      (fun r => r.cycle == c) = withRound s c deadline := by
  have rounds := State.checkComplete_rounds
    { s with window := { s.window with
        rounds := s.window.rounds ++ [⟨c, deadline, s.arrivalFor c, none⟩], nextRound := some (c + 1) } }
    fun r => r.cycle == c
  have voting : State.votingSet { s with window := { s.window with
      rounds := s.window.rounds ++ [⟨c, deadline, s.arrivalFor c, none⟩], nextRound := some (c + 1) } } = s.votingSet :=
    rfl
  have others : (s.window.rounds.map fun r => if (r.cycle == c) = true then r.checked s.votingSet else r) =
      s.window.rounds :=
    (List.map_congr_left fun r hr => if_neg (by simpa using hother r hr)).trans (List.map_id' _)
  rw [List.map_append, voting, others, List.map_singleton, if_pos (beq_self_eq_true c)] at rounds
  rw [withRound, ← rounds]
  rfl

/-- The Round Window's mark: the oldest round makes room where it must, and the round of the mark joins (R68, R69). -/
theorem windowTakesMark_eq {c : Cycle} {deadline : Tick} (hn : s.window.nextRound ≠ none)
    (hother : ∀ r ∈ s.capacityClose.window.rounds, r.cycle ≠ c) :
    s.windowTakesMark c deadline = withRound s.capacityClose c deadline := by
  have present : s.window.nextRound.isNone ≠ true := by simpa using hn
  unfold State.windowTakesMark
  rw [if_neg present]
  exact checkComplete_opened _ hother

/-- The part when the marks on their way are no more than these. -/
def withOffers (s : State) (rest : List MarkOffer) : State := { s with timer := { s.timer with offers := rest } }

/-- The Round Window takes the oldest mark on its way to it as an event of its own (R24). -/
theorem exec_roundWindow {o : MarkOffer} {rest : List MarkOffer} (h : s.timer.offersNext .roundWindow o rest) :
    exec (.mark (.takes [.roundWindow])) s = .next (State.settleNotices
      ((withOffers s rest).windowTakesMark o.cycle o.deadline)) := by
  have taken := takeMark_of_offer s (takeOffer_of_offersNext h)
  have toWindow : o.taker = .roundWindow := by
    obtain ⟨-, -, -, -, ho, -⟩ := h
    exact ho
  rw [State.react, toWindow] at taken
  exact congrArg Host.Outcome.next taken

/-! ## A deadline (R72) -/

theorem expireDeadline_of_absent {c : Cycle} (h : ∀ r ∈ s.window.rounds, r.cycle ≠ c) : s.expireDeadline c = s := by
  have absent : s.window.rounds.find? (fun r => r.cycle == c) = none :=
    List.find?_eq_none.mpr fun r hr => by simpa using h r hr
  rw [State.expireDeadline, absent]

/-- A round as its deadline leaves it: an OPEN one is sealed, a SEALED one keeps its seal (R72). -/
def atDeadline (voting : ChannelSet) (r : Round) : Round :=
  match r.sealedBy with
  | none => { r with sealedBy := some ⟨.deadline, voting⟩ }
  | some _ => r

theorem expireDeadline_of_present {c : Cycle} {before after : List Round} {r : Round}
    (hr : s.window.rounds = before ++ r :: after) (hc : r.cycle = c) (hother : ∀ x ∈ before ++ after, x.cycle ≠ c) :
    s.expireDeadline c =
      { s with
        timer := { s.timer with
          tickCount := if older s.timer.tickCount r.deadline then r.deadline else s.timer.tickCount }
        window := { s.window with rounds := before ++ atDeadline s.votingSet r :: after } } := by
  have notBefore : before.find? (fun x => x.cycle == c) = none :=
    List.find?_eq_none.mpr fun x hx => by simpa using hother x (List.mem_append_left _ hx)
  have found : s.window.rounds.find? (fun x => x.cycle == c) = some r := by
    rw [hr, List.find?_append, notBefore, Option.none_or, List.find?_cons_of_pos (by simp [hc])]
  have untouched : ∀ l : List Round, (∀ x ∈ l, x.cycle ≠ c) → (l.map fun x =>
      if (x.cycle == c && x.isOpen) = true then { x with sealedBy := some ⟨.deadline, s.votingSet⟩ } else x) = l :=
    fun l hl => (List.map_congr_left fun x hx => if_neg (by simp [hl x hx])).trans (List.map_id' _)
  have own : (if (r.cycle == c && r.isOpen) = true then { r with sealedBy := some ⟨.deadline, s.votingSet⟩ } else r) =
      atDeadline s.votingSet r := by
    cases hsealed : r.sealedBy <;> simp [Round.isOpen, atDeadline, hsealed, hc]
  have rounds : (s.window.rounds.map fun x => if (x.cycle == c && x.isOpen) = true then
      { x with sealedBy := some ⟨.deadline, s.votingSet⟩ } else x) = before ++ atDeadline s.votingSet r :: after := by
    rw [hr, List.map_append, List.map_cons, own, untouched before fun x hx => hother x (List.mem_append_left _ hx),
      untouched after fun x hx => hother x (List.mem_append_right _ hx)]
  rw [State.expireDeadline, found]
  simp only [reachTick_eq]
  rw [← rounds]
  rfl

end Sys2Proof.Proofs.RoundWindow

open Sys2Proof Sys2Proof.Machine Sys2Proof.Proofs.RoundWindow

/-- Settles O9: no round need be closed (`capacityClose_of_room`), the round of the mark is checked alone
(`windowTakesMark_eq`), and the event offers no notice. -/
theorem markOpensRound : Obligations.MarkOpensRound := by
  unfold Obligations.MarkOpensRound
  intro s o rest hoffer hn hroom hother hout
  refine ⟨s.arrivalFor o.cycle, arrivalFor_get s o.cycle, ?_⟩
  have room : (withOffers s rest).capacityClose = withOffers s rest := capacityClose_of_room _ hroom
  have taken : (withOffers s rest).windowTakesMark o.cycle o.deadline = withRound (withOffers s rest) o.cycle o.deadline := by
    have eq := windowTakesMark_eq (withOffers s rest) (c := o.cycle) (deadline := o.deadline) hn (by rw [room]; exact hother)
    rwa [room] at eq
  have silent : (withRound (withOffers s rest) o.cycle o.deadline).outbox = [] := hout
  rw [exec_roundWindow s hoffer, taken, State.settleNotices_of_empty _ silent]
  rfl

/-- Settles O17: the round of the cycle, when it is present, is the first one that bears it. -/
theorem deadlineSealsOpenRound : Obligations.DeadlineSealsOpenRound := by
  unfold Obligations.DeadlineSealsOpenRound
  intro s c
  refine ⟨fun habsent => ?_, fun before r after hr hc hother => ?_⟩
  · exact congrArg Host.Outcome.next (expireDeadline_of_absent s habsent)
  · exact congrArg Host.Outcome.next (expireDeadline_of_present s hr hc hother)

end

section
/-! Lemmas about the acceptance span as a list of cycles (R60, R62). -/

namespace Sys2Proof.Proofs.SpanList

open Sys2Proof.Machine Sys2Proof.Proofs.Span

/-- Cycles that follow one another up to `next`, with `next` itself, by their place in the list. -/
theorem endsBefore_getElem? {next : Cycle} {l : List Cycle} (h : endsBefore next l = true) {i : Nat}
    (hi : i < (l ++ [next]).length) : (l ++ [next])[i]? = some (next - BitVec.ofNat 32 ((l ++ [next]).length - 1 - i)) := by
  induction l generalizing i with
  | nil =>
    obtain rfl : i = 0 := by simpa using hi
    simp
  | cons first rest ih =>
    simp only [endsBefore, Bool.and_eq_true, beq_iff_eq] at h
    cases i with
    | zero => simp [h.1]
    | succ i =>
      rw [List.cons_append, List.getElem?_cons_succ, ih h.2 (by simpa using hi)]
      simp only [List.length_cons, List.length_append, List.length_nil]
      congr 3
      omega

/-- Up to five cycles that follow one another are all different. -/
theorem endsBefore_nodup {next : Cycle} {l : List Cycle} (h : endsBefore next l = true) (hl : l.length ≤ 4) :
    (l ++ [next]).Nodup := by
  rw [List.nodup_iff_getElem?_ne_getElem?]
  intro i j hij hj
  rw [endsBefore_getElem? h (hij.trans hj), endsBefore_getElem? h hj]
  simp only [List.length_append, List.length_singleton, ne_eq, Option.some.injEq] at hj ⊢
  have behind : ∀ a b : Nat, a ≤ 4 → b < a → ¬ next - BitVec.ofNat 32 a = next - BitVec.ofNat 32 b := by bv_omega
  exact behind _ _ (by omega) (by omega)

end Sys2Proof.Proofs.SpanList

open Sys2Proof Sys2Proof.Machine Sys2Proof.Proofs.Span Sys2Proof.Proofs.SpanList

/-- Settles O33: the span is the list of consecutive cycles that ends with the next round number, and `spanClass_eq` places
a cycle by its membership. -/
theorem spanHasThreeClasses : Obligations.SpanHasThreeClasses := by
  unfold Obligations.SpanHasThreeClasses
  intro s next c hs hn span
  have four := rounds_length_le hs
  have run := rounds_endBefore hs hn
  have length : span.length = s.window.rounds.length + 1 := by simp [span]
  have inside : s.inSpan c = true ↔ c ∈ span := by
    simp only [State.inSpan, hn, span, Bool.or_eq_true, beq_iff_eq, Option.some.injEq, List.any_eq_true, List.mem_append,
      List.mem_map, List.mem_singleton, eq_comm (a := next), or_comm]
  have apart : s.inSpan c = true → older next c = false := not_older_of_inSpan hs hn
  refine ⟨by omega, by omega, endsBefore_nodup run (by simpa using four), fun i hi => endsBefore_getElem? run hi, ?_⟩
  rw [spanClass_eq hs hn, ← inside]
  cases hin : s.inSpan c with
  | true => simp [apart hin]
  | false => cases hnew : older next c <;> simp
end

section
/-! Lemmas about the table of PROPOSAL as a whole, and about a PROPOSAL that is turned away without a weight or taken (R63 to
R66, R70, R71, R173). -/

namespace Sys2Proof.Proofs.ProposalTable

open Sys2Proof.Machine Sys2Proof.Proofs.ChangeRequest Sys2Proof.Proofs.Span Sys2Proof.Proofs.WeighedProposal

/-! ## The table of PROPOSAL as a whole (R63, R64) -/

theorem firstMet_cons_elim {β γ : Type} (b : Bool) (r : β) (l : List (Bool × β)) (passed : γ) (met : β → γ) :
    (firstMet ((b, r) :: l)).elim passed met = if b = true then met r else (firstMet l).elim passed met := by
  rw [firstMet_cons]
  cases b <;> rfl

/-- A PROPOSAL turned away by the check of this name: counted, and weighed where it is late or does not match (R63, R66). -/
def turnedAway (s : State) (ch : Channel) (name : CounterName) : State :=
  if name = .late ∨ name = .epochWrong then (s.count ch name).weighAndExclude ch (proposalWeight name : Nat)
  else s.count ch name

theorem queue_length_le {s : State} (hs : Sound s) (ch : Channel) : (s.window.queues.get ch).length ≤ 4 := by
  have h := hs.bounded
  simp only [State.bounded, Bool.and_eq_true, Channel.all_all, decide_eq_true_eq] at h
  obtain ⟨⟨⟨⟨⟨⟨channels, -⟩, -⟩, -⟩, -⟩, -⟩, -⟩ := h
  exact (channels ch).2

variable {s : State} {ch : Channel}

theorem notVoter_check_eq : (s.isEmpty || !(s.channelState ch).isVoter) =
    (s.store.installed.isNone || !([ChannelState.candidate, .probation, .voting].contains (s.channelState ch))) := by
  rw [State.isEmpty]
  cases s.channelState ch <;> rfl

theorem sealed_check_eq (c : Cycle) : (s.window.rounds.any fun r => r.cycle == c && !r.isOpen) =
    s.window.rounds.any fun r => r.cycle == c && r.sealedBy.isSome := by
  congr 1
  funext r
  rw [Round.isOpen]
  cases r.sealedBy <;> rfl

theorem inSpan_of_sealed {c : Cycle} (h : (s.window.rounds.any fun r => r.cycle == c && r.sealedBy.isSome) = true) :
    s.inSpan c = true := by
  obtain ⟨r, hr, hsealed⟩ := List.any_eq_true.mp h
  rw [Bool.and_eq_true] at hsealed
  rw [State.inSpan, Bool.or_eq_true]
  exact .inr (List.any_eq_true.mpr ⟨r, hr, hsealed.1⟩)

/-- A PROPOSAL follows its table: the first check it meets turns it away, and otherwise it is queued (R63, R65). -/
theorem takeProposal_eq {u : State} (hs : Sound s) (hk : s.keepsAllBut u [.standing, .ports]) (p : List Byte) :
    u.takeProposal ch p =
      (firstMet (u.proposalTable ch p)).elim (u.queueProposal ch (proposalFields p)) (turnedAway u ch) := by
  have window : u.window = s.window := hk .window (by decide)
  have store : u.store = s.store := hk .store (by decide)
  simp only [State.proposalTable, firstMet_cons_elim, State.takeProposal, notVoter_check_eq, decodeProposal_eq,
    decide_eq_true_eq]
  split
  · rfl
  next hvoter =>
  obtain ⟨cfg, hi⟩ : ∃ cfg, s.store.installed = some cfg := by
    cases hi : s.store.installed with
    | some cfg => exact ⟨cfg, rfl⟩
    | none => simp [store, hi] at hvoter
  obtain ⟨next, hn⟩ := nextRound_of_installed hs hi
  have span : ∀ c, u.inSpan c = s.inSpan c := fun c => by rw [State.inSpan, State.inSpan, window]
  have place : ∀ c, u.window.spanClass next c =
      if u.inSpan c then .inside else if older next c then .newer else .behind := fun c => by
    rw [window, span, spanClass_eq hs hn]
  have full : (4 ≤ (u.window.queues.get ch).length) = (((u.window.queues.get ch).length == 4) = true) := by
    have bound := queue_length_le hs ch
    rw [window, beq_iff_eq, eq_iff_iff]
    omega
  by_cases hp : p.length < 13
  · simp only [if_pos hp]
    rfl
  have cycle : (proposalFields p).cycle = field32 p 0 := rfl
  simp only [if_neg hp, show u.window.nextRound = some next by rw [window, hn], State.sortProposal, Option.any_some,
    ← fits_iff hp, cycle, place, sealed_check_eq, full]
  cases hin : u.inSpan (field32 p 0) with
  | true =>
    have old : older next (field32 p 0) = false := not_older_of_inSpan hs hn (by rw [← span, hin])
    simp only [old, if_true, Bool.not_true, Bool.false_and, Bool.false_or, Bool.false_eq_true, if_false]
    rfl
  | false =>
    have unsealed : (u.window.rounds.any fun r => r.cycle == field32 p 0 && r.sealedBy.isSome) = false :=
      Bool.eq_false_iff.mpr fun h => Bool.false_ne_true (hin.symm.trans (inSpan_of_sealed h))
    rw [unsealed]
    cases older next (field32 p 0) <;> rfl

/-- A PROPOSAL turned away where no weight falls due is counted under its check's name, and nothing else (R63, R66). -/
theorem turnedAway_unweighted {u : State} {name : CounterName}
    (h : (name ≠ .late ∧ name ≠ .epochWrong) ∨ (u.channelState ch).isScored = false) :
    turnedAway u ch name = u.count ch name := by
  rw [turnedAway]
  split
  · next hname =>
    have unscored : (u.channelState ch).isScored = false := h.resolve_left fun hne => hname.elim hne.1 hne.2
    exact Leaving.weighAndExclude_of_not_scored unscored
  · rfl

/-! ## The fields of a PROPOSAL (R173) -/

/-- The bytes that a field of `width` bytes is read from. -/
theorem fieldBytes_eq {p : List Byte} {i width : Nat} (h : i + width ≤ p.length) :
    (p.drop i).take width = (List.range width).map fun k => p.getD (i + k) 0 := by
  refine List.ext_getElem (by simp; omega) fun k hk _ => ?_
  have inside : i + k < p.length := by
    rw [List.length_take] at hk
    omega
  simp [inside]

/-- Fields of one, two and four bytes are read most significant byte first (R173). -/
theorem field_byte {p : List Byte} {i : Nat} (h : i + 1 ≤ p.length) : field p i 1 = (p.getD (i + 0) 0).toNat := by
  rw [field, fieldBytes_eq h]
  exact Nat.zero_add _

theorem field_pair {p : List Byte} {i : Nat} (h : i + 2 ≤ p.length) :
    field p i 2 = 256 * (p.getD (i + 0) 0).toNat + (p.getD (i + 1) 0).toNat := by
  rw [field, fieldBytes_eq h]
  change (0 * 256 + (p.getD (i + 0) 0).toNat) * 256 + (p.getD (i + 1) 0).toNat = _
  omega

theorem field32_toNat {p : List Byte} {i : Nat} (h : i + 4 ≤ p.length) : (field32 p i).toNat =
    16777216 * (p.getD (i + 0) 0).toNat + 65536 * (p.getD (i + 1) 0).toNat + 256 * (p.getD (i + 2) 0).toNat
      + (p.getD (i + 3) 0).toNat := by
  rw [field32, field, fieldBytes_eq h, BitVec.toNat_ofNat]
  change ((((0 * 256 + (p.getD (i + 0) 0).toNat) * 256 + (p.getD (i + 1) 0).toNat) * 256 + (p.getD (i + 2) 0).toNat) * 256
    + (p.getD (i + 3) 0).toNat) % 2 ^ 32 = _
  have := (p.getD (i + 0) 0).isLt
  have := (p.getD (i + 1) 0).isLt
  have := (p.getD (i + 2) 0).isLt
  have := (p.getD (i + 3) 0).isLt
  omega

/-- The items of an item list, by their place: ABSTAIN under the map, and otherwise two bytes (R173). -/
theorem proposalItems_getD (map : Word32) (l : List Byte) (i : Nat) {j : Nat} (hj : 2 * j + 2 ≤ l.length) :
    (proposalItems map i l).getD j none =
      if map.getLsbD (i + j) then none else some (BitVec.ofNat 16 (field l (2 * j) 2)) := by
  induction l using List.twoStepInduction generalizing i j with
  | nil => exact absurd hj (by simp)
  | singleton x => exact absurd hj (by simp)
  | cons_cons x y l ih _ =>
    cases j with
    | zero =>
      rw [field_pair hj, Nat.mul_comm 256]
      rfl
    | succ j =>
      have later := ih (i + 1) (j := j) (by rw [List.length_cons, List.length_cons] at hj; omega)
      rw [proposalItems, List.getD_cons_succ, later, Nat.add_right_comm, Nat.add_assoc]
      rfl

theorem field_drop (p : List Byte) (k i width : Nat) : field (p.drop k) i width = field p (k + i) width := by
  rw [field, field, List.drop_drop]

/-! ## A PROPOSAL that is taken (R65, R70, R71) -/

/-- A PROPOSAL that meets no check has as many items as it counts. -/
theorem length_of_passed {p : List Byte} (h : firstMet (s.proposalTable ch p) = none) :
    p.length = 13 + 2 * field p 8 1 := by
  have unmet : ∀ x ∈ s.proposalTable ch p, x.1 = false := by simpa [firstMet] using h
  have fits := unmet (!((s.store.inForce (field32 p 0)).any fun cfg => field32 p 4 == cfg.epoch
    && field p 8 1 == cfg.schema.length && p.length == 13 + 2 * field p 8 1), .epochWrong)
    (by simp [State.proposalTable])
  cases hcfg : s.store.inForce (field32 p 0) with
  | none => simp [hcfg] at fits
  | some cfg =>
    simp only [hcfg, Option.any_some, Bool.not_eq_false', Bool.and_eq_true, beq_iff_eq] at fits
    exact fits.2

/-- The rounds when a PROPOSAL has been queued: its own has the channel in its arrival set and is checked (R61, R71). -/
theorem queueProposal_rounds (f : ProposalFields) : (s.queueProposal ch f).window.rounds =
    s.window.rounds.map fun r =>
      if r.cycle = f.cycle then Round.checked s.votingSet { r with arrival := r.arrival.set ch true } else r := by
  refine (State.checkComplete_rounds _ _).trans ?_
  rw [List.map_map]
  refine List.map_congr_left fun r _ => ?_
  by_cases hr : r.cycle = f.cycle
  · simp only [Function.comp_apply, hr, beq_self_eq_true, if_true]
    rfl
  · simp [hr]

theorem queueProposal_keeps (f : ProposalFields) :
    s.keepsAllBut (s.queueProposal ch f) [.window, .standing] := fun b hb => by
  cases b <;> first | rfl | exact absurd (by decide) hb

end Sys2Proof.Proofs.ProposalTable

open Sys2Proof Sys2Proof.Machine Sys2Proof.Proofs.EventNotices Sys2Proof.Proofs.ChangeRequest
  Sys2Proof.Proofs.WeighedProposal Sys2Proof.Proofs.ProposalTable

/-- Settles O34: `bump` names each counter, and the check that `takeProposal_eq` finds met is one that brings no weight. -/
theorem rejectedProposalIsOnlyCounted : Obligations.RejectedProposalIsOnlyCounted := by
  unfold Obligations.RejectedProposalIsOnlyCounted
  refine ⟨fun c => ⟨rfl, rfl, rfl, rfl, rfl, rfl, rfl, rfl, rfl, rfl, rfl, rfl, rfl, rfl, rfl, rfl, rfl, rfl⟩,
    fun s ch p name hpin hs hup hmet hname => ?_⟩
  have taken : (heard s ch).takeProposal ch p = turnedAway (heard s ch) ch name := by
    rw [takeProposal_eq hs (heard_keeps s ch), show firstMet ((heard s ch).proposalTable ch p) = some name from hmet]
    rfl
  have unscored : s.channelState ch ≠ .probation ∧ s.channelState ch ≠ .voting → (s.channelState ch).isScored = false :=
    fun h => Bool.eq_false_iff.mpr fun hsc => (Sys2Proof.Proofs.Weighing.isScored_iff.mp hsc).elim h.1 h.2
  have counted : turnedAway (heard s ch) ch name = (heard s ch).count ch name := turnedAway_unweighted (hname.imp_right unscored)
  have silent : ((heard s ch).count ch name).outbox = [] := (outbox_eq_nil hs :)
  refine ⟨(heard s ch).count ch name, ?_, fun x => ?_, heard_port s ch, ?_⟩
  · have received := receiveGood_of_up hpin hup fun s => s.takeProposal ch p
    rw [taken, counted, State.settleNotices_of_empty _ silent] at received
    exact congrArg Host.Outcome.next received
  · rw [State.count_standing, PerChannel.get_set, heard_standing, heard_standing]
    split
    · next hx => rw [hx]
    · next hx => exact if_neg hx
  · exact ((heard_keeps s ch).mono (by decide)).trans ((State.count_keeps _ ch name).mono (by decide))

/-- Settles O36: no check of the table is met, so that `takeProposal_eq` queues the PROPOSAL; its round is checked alone
(`queueProposal_rounds`). -/
theorem takenProposalIsQueued : Obligations.TakenProposalIsQueued := by
  unfold Obligations.TakenProposalIsQueued
  refine ⟨fun p i => ⟨field_byte, field_pair, field32_toNat⟩, fun s ch p hpin hs hup hmet => ?_⟩
  have taken : (heard s ch).takeProposal ch p = (heard s ch).queueProposal ch (proposalFields p) := by
    rw [takeProposal_eq hs (heard_keeps s ch), show firstMet ((heard s ch).proposalTable ch p) = none from hmet]
    rfl
  have length := length_of_passed hmet
  have silent : ((heard s ch).queueProposal ch (proposalFields p)).outbox = [] := (outbox_eq_nil hs :)
  refine ⟨(heard s ch).queueProposal ch (proposalFields p), (proposalFields p).items, ?_, ?_, fun i hi => ?_, fun x => ?_,
    queueProposal_rounds _, rfl, fun x => ?_, heard_port s ch, ?_⟩
  · have received := receiveGood_of_up hpin hup fun s => s.takeProposal ch p
    rw [taken, State.settleNotices_of_empty _ silent] at received
    exact congrArg Host.Outcome.next received
  · rw [proposalFields, proposalItems_length, List.length_drop]
    omega
  · have item := proposalItems_getD (field32 p 9) (p.drop 13) 0 (j := i) (by rw [List.length_drop]; omega)
    rwa [field_drop, Nat.zero_add] at item
  · refine (PerChannel.get_set _ ch x _).trans ?_
    split
    · next hx => rw [hx]; rfl
    · rfl
  · have counted : ((heard s ch).queueProposal ch (proposalFields p)).standing =
      ((heard s ch).count ch .proposalsTaken).standing := rfl
    rw [counted, State.count_standing, PerChannel.get_set, heard_standing, heard_standing]
    split
    · next hx =>
      rw [hx, State.heardStanding, if_pos rfl]
      rfl
    · next hx => exact if_neg hx
  · exact ((heard_keeps s ch).mono (by decide)).trans ((queueProposal_keeps _).mono (by decide))
end

section
/-! Lemmas about what a close decides and leaves, part by part: the record, the output, the rounds and queues, and the Change
Table (R75, R80, R83 to R90, R97, R115, R121, R122, R141). -/

namespace Sys2Proof.Proofs.CloseDecision

open Sys2Proof.Machine Sys2Proof.Proofs.CloseDecides Sys2Proof.Proofs.CloseSteps Sys2Proof.Proofs.CloseWhole

/-! ## The outcome and the items (R83, R88 to R90) -/

section Items

variable (s : State) (r : Round) (cfg : Configuration)

theorem map_getD_none {l : List (Option ItemState)} {f : Option ItemState → Option ItemState} (hf : f none = none)
    (i : Nat) : (l.map f).getD i none = f (l.getD i none) := by
  rw [List.getD_eq_getElem?_getD, List.getD_eq_getElem?_getD, List.getElem?_map]
  cases l[i]? with
  | none => exact hf.symm
  | some e => rfl

theorem filter_of_all {e? : Option ItemState} {p : ItemState → Bool} (h : ∀ e, p e = true) : e?.filter p = e? := by
  cases e? with
  | none => rfl
  | some e => exact if_pos (h e)

/-- The item state that the close reads for item `i` (R15, R88). -/
theorem tableForClose_getD (i : Nat) :
    ((s.store.passBoundary r.cycle).tableForClose r.cycle).getD i none = s.heldIn r i := by
  rw [State.heldIn]
  have unbounded : ∀ st : Store, st.schemaBoundary = none → st.items = s.store.items → st.awaiting = s.store.awaiting →
      (st.tableForClose r.cycle).getD i none = (s.store.items.getD i none).filter fun e => !(s.store.awaiting.any fun w =>
        w.kind == .schema && sameOrNewer r.cycle w.config.firstCycle && older e.acceptanceCycle w.config.firstCycle) := by
    intro st hb hitems hw
    simp only [Store.tableForClose, hb, hw, hitems]
    cases s.store.awaiting with
    | none => exact (filter_of_all fun _ => rfl).symm
    | some w =>
      dsimp only [Option.any_some]
      split
      · next hgoverns =>
        simp only [Bool.and_eq_true, decide_eq_true_eq] at hgoverns
        rw [map_getD_none rfl]
        cases s.store.items.getD i none with
        | none => rfl
        | some e => cases h : older e.acceptanceCycle w.config.firstCycle <;> simp [hgoverns, Option.filter, h]
      · next hgoverns =>
        refine (filter_of_all fun e => ?_).symm
        rw [Bool.not_eq_true, show (w.kind == .schema) = decide (w.kind = .schema) from rfl] at *
        rw [hgoverns]
        rfl
  cases hb : s.store.schemaBoundary with
  | none =>
    rw [Store.passBoundary, hb]
    simpa using unbounded s.store hb rfl rfl
  | some b =>
    cases hold : older r.cycle b with
    | false =>
      simp only [Store.passBoundary, hb, hold]
      simpa [hold] using unbounded { s.store with schemaBoundary := none } rfl rfl rfl
    | true =>
      simp only [Store.passBoundary, hb, hold, if_true, Store.tableForClose]
      rw [map_getD_none rfl]
      simp [hold]

theorem resultsFrom_getElem? (c : Cycle) (votes : List ItemVote) (table : List (Option ItemState)) (i : Nat) :
    (resultsFrom c votes table)[i]? = votes[i]?.map fun v => v.item.result c v.decided (table.getD i none) := by
  induction votes generalizing table i with
  | nil => rfl
  | cons v rest ih =>
    cases i with
    | zero => cases table <;> rfl
    | succ i =>
      rw [resultsFrom, List.getElem?_cons_succ, List.getElem?_cons_succ, ih]
      cases table <;> rfl

theorem resultsFrom_length (c : Cycle) (votes : List ItemVote) (table : List (Option ItemState)) :
    (resultsFrom c votes table).length = votes.length := by
  induction votes generalizing table with
  | nil => rfl
  | cons v rest ih => rw [resultsFrom, List.length_cons, List.length_cons, ih]

/-- The result of an item, in the words of Safety.lean (R83, R88, R89). -/
theorem result_eq (i : Nat) (item : SchemaItem) :
    item.result r.cycle (s.decidedIn r cfg i) (s.heldIn r i) = s.itemIn r cfg i item := by
  unfold SchemaItem.result State.itemIn
  cases s.decidedIn r cfg i with
  | some v => rfl
  | none =>
    cases item.fallback with
    | safe => rfl
    | hold =>
      cases s.heldIn r i with
      | none => rfl
      | some e =>
        unfold ItemState.age ItemState.distance
        cases h : e.saturated <;> simp only [h, true_and, false_and, if_true, if_false, Bool.false_eq_true, Bool.true_eq_false]

theorem items_resultOf (cause : CloseCause) (i : Nat) :
    (resultOf s r cfg cause).items[i]? = cfg.schema[i]?.map (s.itemIn r cfg i) := by
  have items : (resultOf s r cfg cause).items =
      resultsFrom r.cycle (votesAt s r cfg) ((s.store.passBoundary r.cycle).tableForClose r.cycle) := rfl
  rw [items, resultsFrom_getElem?, votesAt_getElem?, tableForClose_getD, Option.map_map]
  exact congrArg (Option.map · _) (funext fun item => result_eq s r cfg i item)

theorem shownItems_getElem? (cause : CloseCause) (out : OutputState) {i : Nat} {item : SchemaItem}
    (hi : cfg.schema[i]? = some item) : (shownItems (resultOf s r cfg cause) out)[i]? = some
      (if out = .safe then { s.itemIn r cfg i item with value := item.safeValue } else s.itemIn r cfg i item) := by
  have votes : (resultOf s r cfg cause).votes[i]? = some ⟨item, s.decidedIn r cfg i⟩ := by
    rw [show (resultOf s r cfg cause).votes = votesAt s r cfg from rfl, votesAt_getElem?, hi]
    rfl
  have items : (resultOf s r cfg cause).items[i]? = some (s.itemIn r cfg i item) := by rw [items_resultOf, hi]; rfl
  rw [shownItems, List.getElem?_zipWith, votes, items]
  rfl

theorem shownItems_length (cause : CloseCause) (out : OutputState) :
    (shownItems (resultOf s r cfg cause) out).length = cfg.schema.length := by
  have items : (resultOf s r cfg cause).items.length = (votesAt s r cfg).length := resultsFrom_length _ _ _
  rw [shownItems, List.length_zipWith, items, show (resultOf s r cfg cause).votes = votesAt s r cfg from rfl,
    Nat.min_self, votesAt_length]

/-- The round outcome, in the words of Safety.lean (R90). -/
theorem roundOutcome_votesAt : roundOutcome (votesAt s r cfg) = s.outcomeIn r cfg := by
  have each : (votesAt s r cfg).map (·.decided.isSome) =
      (List.range cfg.schema.length).map fun i => (s.decidedIn r cfg i).isSome := by
    refine List.ext_getElem? fun i => ?_
    rw [List.getElem?_map, List.getElem?_map, votesAt_getElem?]
    cases h : cfg.schema[i]? with
    | none =>
      rw [List.getElem?_eq_none (by simpa using h)]
      rfl
    | some item =>
      rw [List.getElem?_range (List.getElem?_eq_some_iff.mp h).1]
      rfl
  have all : (votesAt s r cfg).all (fun v => v.decided.isSome) =
      (List.range cfg.schema.length).all fun i => (s.decidedIn r cfg i).isSome := by
    simpa [List.all_map, Function.comp_def] using congrArg (List.all · id) each
  have any : (votesAt s r cfg).any (fun v => v.decided.isSome) =
      (List.range cfg.schema.length).any fun i => (s.decidedIn r cfg i).isSome := by
    simpa [List.any_map, Function.comp_def] using congrArg (List.any · id) each
  rw [roundOutcome, State.outcomeIn, all, any]

end Items

/-! ## The output (R114, R115, R121, R122) -/

section Output

variable (s : State)

/-- The output after a round outcome, under the installed thresholds (R114, R115). -/
def movedOutput (o : OutputPort) (installed : Configuration) (outcome : RoundOutcome) : OutputPort :=
  let runs := OutputRuns.after ⟨o.state, o.voidRun, o.goodRun⟩ outcome installed.record.safeAfter
    installed.record.recoverAfter
  { o with state := runs.state, voidRun := runs.voidRun, goodRun := runs.goodRun, safeN := runs.state.safeNLevel }

theorem moveOutput_output {installed : Configuration} (hi : s.store.installed = some installed) (outcome : RoundOutcome) :
    (s.moveOutput outcome).output = movedOutput s.output installed outcome := by
  unfold State.moveOutput
  rw [hi]
  dsimp only
  split <;> rfl

theorem safeNLevel_eq (out : OutputState) :
    out.safeNLevel = if out = .live ∨ out = .holdover then .high else .low := by cases out <;> rfl

/-- The DECISION of a close (R121). -/
def decisionOf (res : RoundResult) (out : OutputState) : Decision := ⟨res.cycle, res.epoch, out, shownItems res out⟩

theorem produce_output (res : RoundResult) :
    (s.produce res).output = (s.queueDecision (decisionOf res s.output.state)).output
      ∧ (s.produce res).part = (s.queueDecision (decisionOf res s.output.state)).part := by
  have sent := (s.queueDecision (decisionOf res s.output.state)).writeHistory_keeps
    ⟨res.cycle, res.epoch, res.cause, res.outcome, s.output.state, shownItems res s.output.state⟩ |>.mono
      (m := [.history, .ports, .standing]) (by decide) |>.trans <|
    State.keepsAllBut.foldl (fun t ch => (State.sendVerdict_keeps t res (shownItems res s.output.state) ch).mono
      (m := [.history, .ports, .standing]) (by decide)) Channel.all _
  exact ⟨sent .output (by decide), sent .part (by decide)⟩

/-- A DECISION goes to the link when that is free (R122). -/
theorem queueDecision_of_free {d : Decision} (hl : s.output.link = .fill) (hq : s.output.queue = []) :
    s.queueDecision d = { s with output := { s.output with link := .frame d } } := by
  rw [State.queueDecision, hl, hq]

theorem queueDecision_of_busy {d : Decision} (hl : s.output.link ≠ .fill) : s.queueDecision d =
    if s.output.queue.length < 2 then { s with output := { s.output with queue := s.output.queue ++ [d] } }
    else
      { s with
        output := { s.output with queue := s.output.queue.tail ++ [d] }
        part := { s.part with outputOverruns := saturate16 s.part.outputOverruns } } := by
  rw [State.queueDecision]
  split
  · next h _ => exact absurd h hl
  · rfl

end Output

/-! ## The exclusions of a close, block by block (R28, R50, R80, R108, R141) -/

section Exclusions

open Sys2Proof.Proofs.Departures Sys2Proof.Proofs.Leaving

/-- A round without the channels of a set in its arrival set (R80). -/
def clearedBy (out : Channel → Bool) (r : Round) : Round :=
  { r with arrival := PerChannel.build fun ch => r.arrival.get ch && !(out ch) }

/-- A window without the channels of a set: no entry is theirs, and no round has them (R80). -/
def windowWithout (out : Channel → Bool) (w : Window) : Window where
  queues := PerChannel.build fun ch => if out ch then [] else w.queues.get ch
  rounds := w.rounds.map (clearedBy out)
  nextRound := w.nextRound

theorem windowWithout_none (w : Window) : windowWithout (fun _ => false) w = w := by
  have same : clearedBy (fun _ => false) = id := funext fun r => by
    have arrival : (PerChannel.build fun ch => r.arrival.get ch && !false) = r.arrival :=
      PerChannel.eq_of_get fun ch => by simp
    rw [clearedBy, arrival]
    rfl
  have queues : (PerChannel.build fun ch => if false = true then [] else w.queues.get ch) = w.queues :=
    PerChannel.eq_of_get fun ch => by simp
  rw [windowWithout, queues, same, List.map_id]

theorem windowWithout_emptyQueue (s : State) (ch : Channel) (l : List Channel) :
    windowWithout (fun x => decide (x ∈ l)) (s.emptyQueue ch).window =
      windowWithout (fun x => decide (x ∈ ch :: l)) s.window := by
  have queues : (PerChannel.build fun x => if decide (x ∈ l) = true then [] else (s.emptyQueue ch).window.queues.get x) =
      PerChannel.build fun x => if decide (x ∈ ch :: l) = true then [] else s.window.queues.get x :=
    PerChannel.eq_of_get fun x => by
      by_cases hx : x = ch <;> simp [PerChannel.get_set, hx]
  have rounds : ∀ r : Round, clearedBy (fun x => decide (x ∈ l)) (cleared ch r) =
      clearedBy (fun x => decide (x ∈ ch :: l)) r := fun r => by
    have arrival : (PerChannel.build fun x => (cleared ch r).arrival.get x && !(decide (x ∈ l))) =
        PerChannel.build fun x => r.arrival.get x && !(decide (x ∈ ch :: l)) := PerChannel.eq_of_get fun x => by
      by_cases hx : x = ch <;> simp [cleared, PerChannel.get_set, hx]
    rw [clearedBy, arrival]
    rfl
  rw [windowWithout, queues, windowWithout]
  congr 1
  rw [State.emptyQueue_window]
  exact (List.map_map ..).trans (List.map_congr_left fun r _ => rounds r)

/-- One exclusion of a group: the window, the entries that stay, the voided ones counted, and no founding expiry to drop. -/
theorem excludeChannel_blocks {s : State} {ch : Channel} (hn : (s.changes.entries.map (·.ticket)).Nodup)
    (hf : ∀ e ∈ s.changes.entries, e.isFound = false) (hx : s.timer.foundingExpiries = [])
    (hv : (s.channelState ch).isVoter = true) :
    (s.excludeChannel .score ch).window = (s.emptyQueue ch).window
      ∧ (s.excludeChannel .score ch).timer = s.timer
      ∧ (s.excludeChannel .score ch).part = { s.part with
          changesVoided := saturate16^[s.changes.entries.length - (s.excludeChannel .score ch).changes.entries.length]
            s.part.changesVoided } := by
  have timer : (marked s .score ch).timer = s.timer := rfl
  have part : (marked s .score ch).part = s.part := rfl
  have table : (marked s .score ch).changes = s.changes := rfl
  rw [excludeChannel_eq, leaveVoters_eq_of (u := marked s .score ch) hn hf hv, table]
  split
  · refine ⟨rfl, ?_, ?_⟩
    · simp only [afterDeparture, State.emptyQueue_timer, timer, hx, List.filter_nil]
      rw [← hx]
    · simp only [afterDeparture, State.emptyQueue_part, part, voids_length]
  · refine ⟨rfl, rfl, ?_⟩
    rw [State.emptyQueue_changes, table, Nat.sub_self]
    rfl

/-- The entries that one exclusion of a group leaves: fewer, with distinct tickets, and none a FOUND entry. -/
theorem excludeChannel_entries {s : State} {ch : Channel} (hn : (s.changes.entries.map (·.ticket)).Nodup)
    (hf : ∀ e ∈ s.changes.entries, e.isFound = false) (hv : (s.channelState ch).isVoter = true) :
    ((s.excludeChannel .score ch).changes.entries.map (·.ticket)).Nodup
      ∧ (∀ e ∈ (s.excludeChannel .score ch).changes.entries, e.isFound = false)
      ∧ (s.excludeChannel .score ch).changes.entries.length ≤ s.changes.entries.length := by
  have shorter := (staying_tickets_sublist ch s.changes.entries).length_le
  rw [List.length_map, List.length_map] at shorter
  rw [(excludeChannel_told hn hf hv).1]
  split
  · exact ⟨hn.sublist (staying_tickets_sublist ch _), not_isFound_of_mem_staying hf, shorter⟩
  · exact ⟨hn, hf, le_refl _⟩

/-- The exclusions of a close, one after another: the window without their channels, the Change Table without them (log entry
16), the voided entries counted, and no founding expiry to drop. -/
theorem excludeAll_blocks (l : List Channel) : ∀ (s : State), l.Nodup → (s.changes.entries.map (·.ticket)).Nodup →
    (∀ e ∈ s.changes.entries, e.isFound = false) → s.timer.foundingExpiries = [] →
    (∀ ch ∈ l, (s.channelState ch).isVoter = true) →
    (excludeAll s l).window = windowWithout (fun x => decide (x ∈ l)) s.window
      ∧ (excludeAll s l).timer = s.timer
      ∧ (excludeAll s l).changes = (l.filter fun x => s.channelState x == .voting).foldl ChangeTable.without s.changes
      ∧ (excludeAll s l).changes.entries.length ≤ s.changes.entries.length
      ∧ (excludeAll s l).part = { s.part with
          changesVoided := saturate16^[s.changes.entries.length - (excludeAll s l).changes.entries.length]
            s.part.changesVoided } := by
  induction l with
  | nil =>
    intro s _ _ _ _ _
    have window : windowWithout (fun x => decide (x ∈ [])) s.window = s.window := by
      simpa using windowWithout_none s.window
    have none : excludeAll s [] = s := rfl
    rw [none, Nat.sub_self]
    exact ⟨window.symm, rfl, rfl, le_refl _, rfl⟩
  | cons ch l ih =>
    intro s hl hn hf hx hv
    obtain ⟨hch, hl⟩ := List.nodup_cons.mp hl
    have voter := hv ch (List.mem_cons_self ..)
    obtain ⟨changes, -⟩ := excludeChannel_told hn hf voter
    obtain ⟨window, timer, part⟩ := excludeChannel_blocks hn hf hx voter
    have state : ∀ x ∈ l, (s.excludeChannel .score ch).channelState x = s.channelState x := fun x hx => by
      have own := congrArg Prod.fst (excludeChannel_own (s := s) rfl ch x)
      rw [if_neg fun h : x = ch => hch (h ▸ hx)] at own
      exact congrArg Member.state own
    obtain ⟨tickets, notFound, fewer⟩ := excludeChannel_entries hn hf voter
    obtain ⟨window', timer', changes', fewer', part'⟩ := ih (s.excludeChannel .score ch) hl tickets notFound
      (by rw [timer, hx]) fun x hx => by
        rw [state x hx]
        exact hv x (List.mem_cons_of_mem _ hx)
    refine ⟨?_, timer'.trans timer, ?_, fewer'.trans fewer, ?_⟩
    · exact window'.trans ((congrArg (windowWithout _) window).trans (windowWithout_emptyQueue s ch l))
    · refine changes'.trans ?_
      rw [List.filter_congr fun x hx => by rw [state x hx], changes]
      by_cases h : s.channelState ch = .voting
      · rw [if_pos h, List.filter_cons_of_pos (by simp [h])]
        rfl
      · rw [if_neg h, List.filter_cons_of_neg (by simp [h])]
    · refine part'.trans ?_
      rw [part]
      dsimp only
      rw [← Function.iterate_add_apply]
      have total : (s.excludeChannel .score ch).changes.entries.length
            - (excludeAll (s.excludeChannel .score ch) l).changes.entries.length
          + (s.changes.entries.length - (s.excludeChannel .score ch).changes.entries.length) =
          s.changes.entries.length - (excludeAll (s.excludeChannel .score ch) l).changes.entries.length := by omega
      rw [total]
      rfl

end Exclusions

/-! ## The close as a whole -/

section Whole

open Sys2Proof.Proofs.SoundParts Sys2Proof.Proofs.MembersSettle Sys2Proof.Proofs.Leaving Sys2Proof.Proofs.EachChannel

variable {s : State} {r : Round} {cfg installed : Configuration} {res : RoundResult} {cause : CloseCause} (hs : Sound s)
  (hi : s.store.installed = some installed) (hres : res = resultOf s r cfg cause)

theorem queueDecision_runs (u : State) (d : Decision) : (u.queueDecision d).output =
    { u.output with link := (u.queueDecision d).output.link, queue := (u.queueDecision d).output.queue } := by
  unfold State.queueDecision
  split
  · rfl
  · split <;> rfl

theorem queueDecision_part (u : State) (d : Decision) : (u.queueDecision d).part =
    { u.part with outputOverruns := (u.queueDecision d).part.outputOverruns } := by
  unfold State.queueDecision
  split
  · rfl
  · split <;> rfl

/-- No DECISION waits while the output link is free (R123). -/
theorem queue_eq_nil_of_free (hs : Sound s) (hl : s.output.link = .fill) : s.output.queue = [] := by
  have h := hs.output
  simp only [OutputPort.sound, hl, Bool.and_eq_true, Bool.or_false, beq_iff_eq] at h
  exact h.2

include hi

/-- The part when the output has moved and before anything is produced. -/
theorem outputMoved : ((weighedAt s r res).1.moveOutput res.outcome).output = movedOutput s.output installed res.outcome
    ∧ ((weighedAt s r res).1.moveOutput res.outcome).part = { s.part with decisions := saturate32 s.part.decisions } := by
  have store : (weighedAt s r res).1.store = (recorded s r res).store := weighedAt_keeps s r res .store (by decide)
  have output : (weighedAt s r res).1.output = s.output :=
    Eq.trans (weighedAt_keeps s r res .output (by decide)) (recorded_keeps s r res .output (by decide))
  have part : (weighedAt s r res).1.part = (recorded s r res).part := weighedAt_keeps s r res .part (by decide)
  refine ⟨?_, Eq.trans (State.moveOutput_keeps _ _ .part (by decide)) part⟩
  rw [moveOutput_output _ (by rw [store, (store_recorded s r res).1, hi]), output]

/-- What a close sends on the output link, or leaves waiting for it (R114, R115, R121, R122). -/
theorem producedAt_output :
    (producedAt s r res).output = { movedOutput s.output installed res.outcome with
        link := (producedAt s r res).output.link, queue := (producedAt s r res).output.queue }
      ∧ ∃ u : State, u.output = movedOutput s.output installed res.outcome
        ∧ u.part = { s.part with decisions := saturate32 s.part.decisions }
        ∧ (producedAt s r res).output = (u.queueDecision (decisionOf res (producedAt s r res).output.state)).output
        ∧ (producedAt s r res).part = (u.queueDecision (decisionOf res (producedAt s r res).output.state)).part := by
  obtain ⟨output, part⟩ := outputMoved (r := r) (res := res) hi
  obtain ⟨output', part'⟩ := produce_output ((weighedAt s r res).1.moveOutput res.outcome) res
  have runs := queueDecision_runs ((weighedAt s r res).1.moveOutput res.outcome)
    (decisionOf res ((weighedAt s r res).1.moveOutput res.outcome).output.state)
  rw [← output', output] at runs
  have state : (producedAt s r res).output.state = ((weighedAt s r res).1.moveOutput res.outcome).output.state := by
    rw [output]
    exact (congrArg OutputPort.state runs :)
  refine ⟨runs, _, output, part, ?_, ?_⟩
  · rw [state]
    exact output'
  · rw [state]
    exact part'

theorem producedAt_decisions :
    (producedAt s r res).part = { s.part with
      decisions := saturate32 s.part.decisions, outputOverruns := (producedAt s r res).part.outputOverruns } := by
  obtain ⟨-, u, -, part, -, part'⟩ := producedAt_output (r := r) (res := res) hi
  have overruns := queueDecision_part u (decisionOf res (producedAt s r res).output.state)
  rw [part, ← part'] at overruns
  exact overruns

include hs in
/-- The DECISION goes to a link that is free, and else to the queue of two, where the older frame gives way (R121, R122). -/
theorem producedAt_sent :
    (s.output.link = .fill →
      (producedAt s r res).output.link = .frame (decisionOf res (producedAt s r res).output.state)
        ∧ (producedAt s r res).output.queue = []
        ∧ (producedAt s r res).part.outputOverruns = s.part.outputOverruns)
      ∧ (s.output.link ≠ .fill → (producedAt s r res).output.link = s.output.link
        ∧ (s.output.queue.length ≤ 1 →
          (producedAt s r res).output.queue = s.output.queue ++ [decisionOf res (producedAt s r res).output.state]
            ∧ (producedAt s r res).part.outputOverruns = s.part.outputOverruns)
        ∧ (s.output.queue.length = 2 →
          (producedAt s r res).output.queue = s.output.queue.tail ++ [decisionOf res (producedAt s r res).output.state]
            ∧ (producedAt s r res).part.outputOverruns = min (s.part.outputOverruns + 1) 65535)) := by
  obtain ⟨-, u, output, part, output', part'⟩ := producedAt_output (r := r) (res := res) hi
  have link : u.output.link = s.output.link := (congrArg OutputPort.link output :)
  have queue : u.output.queue = s.output.queue := (congrArg OutputPort.queue output :)
  have overruns : u.part.outputOverruns = s.part.outputOverruns :=
    (congrArg PartCounters.outputOverruns part :)
  generalize decisionOf res (producedAt s r res).output.state = d at output' part' ⊢
  rw [output', part', ← link, ← queue, ← overruns]
  refine ⟨fun hl => ?_, fun hl => ?_⟩
  · have empty : u.output.queue = [] := by rw [queue, queue_eq_nil_of_free hs (link ▸ hl)]
    rw [queueDecision_of_free u hl empty]
    exact ⟨rfl, empty, rfl⟩
  · rw [queueDecision_of_busy u hl]
    refine ⟨by split <;> rfl, fun hlen => ?_, fun hlen => ?_⟩
    · rw [if_pos (by omega)]
      exact ⟨rfl, rfl⟩
    · rw [if_neg (by omega)]
      exact ⟨rfl, rfl⟩

include hs hres

/-- What the exclusions of a close leave in the window, the Change Table, the timer and the counters. -/
theorem movedAt_blocks :
    (movedAt s r res).window = windowWithout (claimed s r cfg installed) (s.removeRound r.cycle).window
      ∧ (movedAt s r res).timer = s.timer
      ∧ (movedAt s r res).changes = ((Channel.all.filter (claimed s r cfg installed)).filter fun x =>
          s.channelState x == .voting).foldl ChangeTable.without s.changes
      ∧ (movedAt s r res).part = { s.part with
          decisions := saturate32 s.part.decisions
          outputOverruns := (producedAt s r res).part.outputOverruns
          changesVoided := min (s.part.changesVoided
            + (s.changes.entries.length - (movedAt s r res).changes.entries.length)) 65535 } := by
  have kept := producedAt_keeps s r res
  have changes : (producedAt s r res).changes = s.changes := kept .changes (by decide)
  have timer : (producedAt s r res).timer = s.timer := kept .timer (by decide)
  have window : (producedAt s r res).window = (s.removeRound r.cycle).window :=
    producedAt_keeps_recorded s r res .window (by decide)
  have state : ∀ x, (producedAt s r res).channelState x = s.channelState x := fun x => by
    rw [State.channelState, State.channelState, show (producedAt s r res).members = s.members from
      kept .members (by decide)]
  obtain ⟨-, -, claimsList⟩ := weighedAt_spec hi hres
  obtain ⟨-, tickets, -⟩ := FoundingExpiry.changes_parts hs
  have blocks := excludeAll_blocks (Channel.all.filter (claimed s r cfg installed)) (producedAt s r res) nodup_claimed
    (by rwa [changes]) (by rw [changes]; exact not_isFound_of_installed hs hi)
    (by rw [timer, foundingExpiries_of_installed hs hi]) fun x hx => by
      rw [state]
      exact isVoter_of_isScored (isScored_of_claimed (List.mem_filter.mp hx).2)
  have probed : (excludeAll (producedAt s r res) (Channel.all.filter (claimed s r cfg installed))).keepsAllBut
      (movedAt s r res) [.members, .outbox] := by
    rw [movedAt, claimsList]
    exact .foldl (fun s ch => s.updateProbation_keeps res ch) _ _
  rw [← show (movedAt s r res).window = _ from probed .window (by decide),
    ← show (movedAt s r res).timer = _ from probed .timer (by decide),
    ← show (movedAt s r res).changes = _ from probed .changes (by decide),
    ← show (movedAt s r res).part = _ from probed .part (by decide)] at blocks
  obtain ⟨window', timer', changes', -, part'⟩ := blocks
  have mem : (fun x => decide (x ∈ Channel.all.filter (claimed s r cfg installed))) = claimed s r cfg installed :=
    funext fun x => by simp [List.mem_filter, x.mem_all]
  have voided : (producedAt s r res).part.changesVoided = s.part.changesVoided := by
    rw [producedAt_decisions hi]
  refine ⟨?_, timer'.trans timer, ?_, ?_⟩
  · rw [window', mem, window]
  · rw [changes', changes, List.filter_congr fun x _ => by rw [state]]
  · rw [part', voided, changes, Departures.saturate16_iterate _ (changesVoided_le hs)]
    conv_lhs => rw [producedAt_decisions hi]

omit hi hres in
/-- No other round bears the cycle of the oldest (R60). -/
theorem removeRound_rounds {rest : List Round} (hi : s.store.installed = some installed)
    (hr : s.window.rounds = r :: rest) : (s.removeRound r.cycle).window.rounds = rest := by
  obtain ⟨next, hn⟩ := Span.nextRound_of_installed hs hi
  have distinct := SpanList.endsBefore_nodup (Span.rounds_endBefore hs hn) (by simpa using Span.rounds_length_le hs)
  rw [hr, List.map_cons, List.cons_append, List.nodup_cons, List.mem_append, not_or] at distinct
  have other : ∀ x ∈ rest, (x.cycle != r.cycle) = true := fun x hx => by
    rw [bne_iff_ne]
    intro heq
    exact distinct.1.1 (heq ▸ List.mem_map_of_mem hx)
  rw [State.removeRound, hr]
  dsimp only
  rw [List.filter_cons_of_neg (by simp), List.filter_eq_self.mpr other]

omit hs hi hres in
/-- The completeness check leaves a round exactly when it is SEALED or not complete (R70). -/
theorem checked_eq_self_iff {v : ChannelSet} {x : Round} : x.checked v = x ↔ (x.isOpen && x.isComplete v) = false := by
  rw [Round.checked_eq]
  split
  · next met =>
    have isOpen : x.isOpen = true := (Bool.and_eq_true_iff.mp met).1
    refine iff_of_false (fun heq => ?_) (by simp [met])
    rw [← heq] at isOpen
    exact Bool.false_ne_true isOpen
  · next unmet => exact iff_of_true rfl (by simpa using unmet)

omit hs hi hres in
/-- Channels that are not VOTING make no difference to completeness (R70). -/
theorem checked_clearedBy {out : Channel → Bool} {v : ChannelSet} (hv : ∀ ch, out ch = true → v.get ch = false)
    {x : Round} (h : x.checked v = x) : (clearedBy out x).checked v = clearedBy out x := by
  have within : v.within (clearedBy out x).arrival = v.within x.arrival := by
    rw [Bool.eq_iff_iff, ChannelSet.within_iff, ChannelSet.within_iff]
    refine forall_congr' fun ch => imp_congr_right fun hch => ?_
    cases ho : out ch with
    | false => simp [clearedBy, ho]
    | true => exact absurd (hch.symm.trans (hv ch ho)) (by decide)
  rw [checked_eq_self_iff] at h ⊢
  rwa [Round.isComplete, within]

omit hs in
/-- A claimed channel has left VOTING. -/
theorem votingSet_movedAt {x : Channel} (h : claimed s r cfg installed x = true) :
    (movedAt s r res).votingSet.get x = false := by
  have member := settledAt_members (s := s) (r := r) hi hres x
  rw [show (settledAt s r res).members = (movedAt s r res).members from settledAt_keeps s r res .members (by decide),
    newMember, h] at member
  rw [votingSet_get, State.channelState, member]
  rfl

omit hs hi hres in
theorem votingSet_closedAt : (closedAt s r res).votingSet = (movedAt s r res).votingSet := votingSet_congr fun x => by
  rw [State.channelState, State.channelState,
    show (closedAt s r res).members = (settledAt s r res).members from closedAt_keeps .members (by decide),
    show (settledAt s r res).members = (movedAt s r res).members from settledAt_keeps s r res .members (by decide)]

/-- The rounds after a close, and their queues (R50, R73, R75, R80). -/
theorem closedAt_window {rest : List Round} (hr : s.window.rounds = r :: rest) :
    (closedAt s r res).window.rounds = rest.map (fun x => Round.checked (closedAt s r res).votingSet
        (clearedBy (claimed s r cfg installed) x))
      ∧ (closedAt s r res).window.nextRound = s.window.nextRound
      ∧ ∀ x, (closedAt s r res).window.queues.get x =
        if claimed s r cfg installed x then [] else (s.window.queues.get x).filter fun e => e.cycle != r.cycle := by
  obtain ⟨window, -, -, -⟩ := movedAt_blocks hs hi hres
  have before : (producedAt s r res).votingSet = s.votingSet := votingSet_congr fun x => by
    rw [State.channelState, State.channelState,
      show (producedAt s r res).members = s.members from producedAt_keeps s r res .members (by decide)]
  have remaining : (movedAt s r res).window.rounds = rest.map (clearedBy (claimed s r cfg installed)) := by
    rw [window, windowWithout, removeRound_rounds hs hi hr]
  have settled : (settledAt s r res).window.rounds =
      (movedAt s r res).window.rounds.map (Round.checked (movedAt s r res).votingSet) := by
    refine settleMembership_rounds fun hv x hx => ?_
    rw [remaining] at hx
    obtain ⟨y, hy, rfl⟩ := List.mem_map.mp hx
    refine checked_clearedBy (fun ch => votingSet_movedAt hi hres) ?_
    rw [hv, before]
    exact checked_eq_self hs (hr ▸ List.mem_cons_of_mem r hy)
  have closed : (closedAt s r res).window = (settledAt s r res).window := closedAt_keeps .window (by decide)
  have others : (settledAt s r res).window = { (movedAt s r res).window with
      rounds := (settledAt s r res).window.rounds } := by
    rw [settledAt, settleMembership_eq]
  rw [closed]
  refine ⟨?_, ?_, fun x => ?_⟩
  · rw [settled, remaining, votingSet_closedAt, List.map_map]
    rfl
  · rw [others, window]
    rfl
  · rw [others, window, windowWithout, PerChannel.get_build, State.removeRound]
    dsimp only
    rw [PerChannel.get_build]

omit hs hi hres in
theorem discardRetained_installed (st : Store) (rounds : List Round) :
    (st.discardRetained rounds).installed = st.installed := by
  unfold Store.discardRetained
  split <;> rfl

omit hs hi hres in
/-- The group state after a close is the one that the VOTING set gives (R51). -/
theorem closedAt_groupState : (closedAt s r res).groupState = (closedAt s r res).derivedGroupState := by
  have store : (closedAt s r res).store = (settledAt s r res).store.discardRetained (settledAt s r res).window.rounds :=
    State.settleNotices_keeps _ .store (by decide)
  have installed : (closedAt s r res).store.installed = (movedAt s r res).store.installed := by
    rw [store, discardRetained_installed,
      show (settledAt s r res).store = (movedAt s r res).store from settledAt_keeps s r res .store (by decide)]
  rw [derivedGroupState_congr installed votingSet_closedAt,
    show (closedAt s r res).groupState = (settledAt s r res).groupState from closedAt_keeps .groupState (by decide),
    settledAt, settleMembership_eq]

omit hs in
/-- The voters that a close has excluded are those it claimed, in letter order. -/
theorem votersExcluded_closedAt : s.votersExcluded (closedAt s r res) =
    (Channel.all.filter (claimed s r cfg installed)).filter fun x => s.channelState x == .voting := by
  rw [State.votersExcluded, List.filter_filter]
  exact List.filter_congr fun x _ => by rw [excludesNow_closedAt hi hres, Bool.and_comm]

omit hs hi hres in
theorem closedAt_keeps_moved :
    (movedAt s r res).keepsAllBut (closedAt s r res) [.window, .groupState, .outbox, .store, .ports] :=
  ((settledAt_keeps s r res).mono (by decide)).trans (closedAt_keeps.mono (by decide))

/-- The counters after a close, but for the voided entries (R108). -/
theorem closedAt_part : (closedAt s r res).part.decisions = saturate32 s.part.decisions
    ∧ (closedAt s r res).part.outputOverruns = (producedAt s r res).part.outputOverruns
    ∧ (closedAt s r res).part.forcedCloses = s.part.forcedCloses
    ∧ (closedAt s r res).part.changesCommitted = s.part.changesCommitted := by
  obtain ⟨-, -, -, part⟩ := movedAt_blocks hs hi hres
  rw [show (closedAt s r res).part = (movedAt s r res).part from closedAt_keeps_moved .part (by decide), part]
  exact ⟨rfl, rfl, rfl, rfl⟩

/-- The Change Table after a close, without the entries of the voters it has excluded (R28, R108, R141). -/
theorem changesNow_closedAt : s.changesNow (closedAt s r res)
    ((s.votersExcluded (closedAt s r res)).foldl ChangeTable.without s.changes) := by
  obtain ⟨-, timer, changes, part⟩ := movedAt_blocks hs hi hres
  rw [votersExcluded_closedAt hi hres, ← changes]
  refine ⟨closedAt_keeps_moved .changes (by decide), ?_, ?_⟩
  · rw [show (closedAt s r res).part = (movedAt s r res).part from closedAt_keeps_moved .part (by decide)]
    exact congrArg PartCounters.changesVoided part
  · rw [show (closedAt s r res).timer = (movedAt s r res).timer from closedAt_keeps_moved .timer (by decide), timer,
      foundingExpiries_of_installed hs hi, List.filter_nil, ← foundingExpiries_of_installed hs hi]

/-- The blocks that a close of a group leaves as they are. -/
theorem closedAt_frame : s.keepsAllBut (closedAt s r res)
    [.store, .members, .groupState, .window, .standing, .part, .changes, .output, .history, .ports] := by
  obtain ⟨-, timer, -, -⟩ := movedAt_blocks hs hi hres
  have kept : s.keepsAllBut (closedAt s r res) [.store, .members, .groupState, .window, .standing, .part, .changes,
      .output, .history, .ports, .timer, .outbox] :=
    ((producedAt_keeps s r res).mono (by decide)).trans
      (((movedAt_keeps s r res).mono (by decide)).trans (closedAt_keeps_moved.mono (by decide)))
  intro b hb
  cases b
  case timer => exact Eq.trans (closedAt_keeps_moved .timer (by decide)) timer
  case outbox => exact (EventNotices.outbox_eq_nil hs).symm
  all_goals exact kept _ (by revert hb; decide)

end Whole

/-- CLOSE of the oldest round, SEALED, with the close cause that its seal gives (R74, R76). -/
theorem exec_close_sealed {s : State} {r : Round} {rest : List Round} {sl : Seal} {cfg : Configuration}
    (hr : s.window.rounds = r :: rest) (hsealed : r.sealedBy = some sl) (hf : s.store.inForce r.cycle = some cfg) :
    exec .close s = .next (closedAt s r (resultOf s r cfg sl.cause.closeCause)) := by
  have oldest : s.window.oldestSealed = some (r, sl.cause) := by simp [Window.oldestSealed, hr, hsealed]
  change execClose s = _
  rw [execClose, oldest]
  dsimp only
  rw [closeRound_eq hf]
  rfl

/-- With the oldest round OPEN, or none present, nothing is closed (R69, R74). -/
theorem exec_close_of_open {s : State} (h : ∀ r rest, s.window.rounds = r :: rest → r.sealedBy = none) :
    exec .close s = .next s := by
  have none : s.window.oldestSealed = none := by
    unfold Window.oldestSealed
    split
    · next r rest hr => rw [h r rest hr, Option.map_none]
    · rfl
  change execClose s = _
  rw [execClose, none]

end Sys2Proof.Proofs.CloseDecision

open Sys2Proof.Machine Sys2Proof.Proofs.CloseDecides Sys2Proof.Proofs.CloseWhole Sys2Proof.Proofs.CloseDecision

/-- Settles O49: the record and the frame from the votes of the counted entries (`shownItems_getElem?`,
`roundOutcome_votesAt`), the output from its transition, and the other blocks from the exclusions that the close claims. -/
theorem closeProducesOneDecision : Obligations.CloseProducesOneDecision := by
  unfold Obligations.CloseProducesOneDecision
  refine fun s => ⟨exec_close_of_open, fun r rest sl cfg installed hs hr hsealed hf hi => ?_⟩
  have close := exec_close_sealed hr hsealed hf
  generalize hres : resultOf s r cfg sl.cause.closeCause = res at close
  have hres := hres.symm
  obtain ⟨runs, -⟩ := producedAt_output (r := r) (res := res) hi
  obtain ⟨decisions, overruns, forced, committed⟩ := closedAt_part hs hi hres
  obtain ⟨rounds, next, queues⟩ := closedAt_window hs hi hres hr
  have outcome : res.outcome = s.outcomeIn r cfg := by rw [hres, outcome_resultOf, roundOutcome_votesAt]
  have claims : s.excludesNow (closedAt s r res) = claimed s r cfg installed :=
    funext fun x => excludesNow_closedAt hi hres x
  refine ⟨closedAt s r res, recordAt s r res, close, ?_, ?_, ?_, ?_, ?_, outcome, ?_, fun i item hitem => ?_, ?_, ?_, ?_,
    decisions, forced, committed, ?_, next, fun ch => ?_, closedAt_groupState, changesNow_closedAt hs hi hres,
    toldAtClose_closedAt hs hi hres, closedAt_frame hs hi hres⟩
  · rw [closedAt_history, producedAt_history]
    rfl
  · rw [recordAt, hres]
    rfl
  · rw [recordAt, hres]
    rfl
  · rw [closedAt_output]
    rfl
  · rw [recordAt, hres]
    cases sl.cause <;> rfl
  · rw [recordAt, hres]
    exact shownItems_length ..
  · have items := shownItems_getElem? s r cfg sl.cause.closeCause (producedAt s r res).output.state hitem
    rw [← hres] at items
    rw [closedAt_output]
    exact items
  · rw [closedAt_output, runs]
    rfl
  · rw [closedAt_output, runs]
    exact safeNLevel_eq _
  · rw [closedAt_output, overruns]
    exact producedAt_sent hs hi
  · rw [rounds, claims]
    rfl
  · rw [queues, claims]
end

section
/-! A close does not turn on its close cause: two closes that differ in the cause, in the marks on their way and in the count of
forced closes leave the same part but for these, the history record and the VERDICTs (R69, R75, R76). -/

namespace Sys2Proof.Proofs.CloseCause

open Sys2Proof.Machine Sys2Proof.Proofs.CloseDecides Sys2Proof.Proofs.CloseSteps Sys2Proof.Proofs.CloseWhole
  Sys2Proof.Proofs.CloseDecision Sys2Proof.Proofs.MembersSettle Sys2Proof.Proofs.Offers Sys2Proof.Proofs.RoundWindow

/-! ## What the steps of a close do not read -/

/-- What a close writes or leaves and does not read: the marks on their way, the forced closes, the History Buffer and the
VERDICTs that wait. -/
structure Unread where
  offers : List MarkOffer
  forcedCloses : Nat
  history : List DecisionRecord
  verdicts : PerChannel (List Verdict)

/-- A port with these VERDICTs waiting. -/
def withVerdicts (v : List Verdict) (p : Port) : Port := { p with verdicts := v }

/-- The state with these values in the places that a close does not read. -/
def dressed (x : Unread) (s : State) : State :=
  { s with
    timer := { s.timer with offers := x.offers }
    part := { s.part with forcedCloses := x.forcedCloses }
    history := x.history
    ports := PerChannel.build fun ch => withVerdicts (x.verdicts.get ch) (s.ports.get ch) }

variable (x : Unread) (s : State)

@[simp] theorem dressed_members : (dressed x s).members = s.members := rfl
@[simp] theorem dressed_store : (dressed x s).store = s.store := rfl
@[simp] theorem dressed_standing : (dressed x s).standing = s.standing := rfl
@[simp] theorem dressed_window : (dressed x s).window = s.window := rfl
@[simp] theorem dressed_changes : (dressed x s).changes = s.changes := rfl
@[simp] theorem dressed_output : (dressed x s).output = s.output := rfl
@[simp] theorem dressed_outbox : (dressed x s).outbox = s.outbox := rfl
@[simp] theorem dressed_channelState (ch : Channel) : (dressed x s).channelState ch = s.channelState ch := rfl
@[simp] theorem dressed_votingSet : (dressed x s).votingSet = s.votingSet := rfl
@[simp] theorem dressed_port (ch : Channel) :
    (dressed x s).ports.get ch = withVerdicts (x.verdicts.get ch) (s.ports.get ch) := PerChannel.get_build _ _
@[simp] theorem dressed_isUp (ch : Channel) : (dressed x s).isUp ch = s.isUp ch := by
  rw [State.isUp, dressed_port]
  rfl

/-! ## The weights and the output -/

theorem weigh_dressed (ch : Channel) (w : Int) :
    (dressed x s).weigh ch w = (dressed x (s.weigh ch w).1, (s.weigh ch w).2) := by
  unfold State.weigh
  by_cases scored : (s.channelState ch).isScored = true
  · rw [if_pos scored, if_pos (show ((dressed x s).channelState ch).isScored = true from scored)]
    simp only [State.modStanding_store, dressed_store, dressed_standing]
    cases s.store.installed with
    | none => rfl
    | some cfg =>
      dsimp only
      cases scoreEffect cfg.record (s.standing.get ch).score (weighted (s.standing.get ch).score w) <;> rfl
  · rw [if_neg scored, if_neg (show ¬ ((dressed x s).channelState ch).isScored = true from scored)]

theorem weighClass_dressed (res : PerChannel (Option ChannelResult)) (acc : State × List Channel) (ch : Channel) :
    weighClass res (dressed x acc.1, acc.2) ch = (dressed x (weighClass res acc ch).1, (weighClass res acc ch).2) := by
  unfold weighClass
  cases ((res.get ch).bind (·.standing)).bind (·.weight) with
  | none => rfl
  | some pair =>
    obtain ⟨w, name⟩ := pair
    have counted : (dressed x acc.1).count ch name = dressed x (acc.1.count ch name) := rfl
    simp only [counted, weigh_dressed]

theorem weighClose_dressed (res : PerChannel (Option ChannelResult)) :
    (dressed x s).weighClose res = (dressed x (s.weighClose res).1, (s.weighClose res).2) :=
  List.foldl_hom (fun acc : State × List Channel => (dressed x acc.1, acc.2)) (g₁ := weighClass res)
    (g₂ := weighClass res) (l := Channel.all) (init := (s, [])) (weighClass_dressed x res)

theorem moveOutput_eq {installed : Configuration} (hi : s.store.installed = some installed) (o : RoundOutcome) :
    s.moveOutput o = { s with
      output := movedOutput s.output installed o
      outbox := s.outbox ++ toAll (if (movedOutput s.output installed o).state = s.output.state then []
        else [.outputState (movedOutput s.output installed o).state]) } := by
  unfold State.moveOutput
  rw [hi]
  dsimp only
  split
  · next h =>
    rw [if_pos (show (movedOutput s.output installed o).state = s.output.state from h), toAll_nil, List.append_nil]
    rfl
  · next h =>
    rw [if_neg (show ¬ (movedOutput s.output installed o).state = s.output.state from h)]
    rfl

theorem moveOutput_dressed {installed : Configuration} (hi : s.store.installed = some installed) (o : RoundOutcome) :
    (dressed x s).moveOutput o = dressed x (s.moveOutput o) := by
  rw [moveOutput_eq s hi, moveOutput_eq (dressed x s) hi]
  rfl

theorem queueDecision_dressed (d : Decision) : (dressed x s).queueDecision d = dressed x (s.queueDecision d) := by
  simp only [State.queueDecision, dressed_output]
  split
  · rfl
  · split <;> rfl

/-! ## The members -/

theorem depart_dressed (ch : Channel) (f : ChangeEntry → Bool) :
    (dressed x s).depart ch f = dressed x (s.depart ch f) := by
  refine List.foldl_hom (dressed x) fun s e => ?_
  simp only [State.departFrom]
  split
  · rfl
  · split <;> rfl

theorem leaveVoters_dressed (ch : Channel) (was : ChannelState) :
    (dressed x s).leaveVoters ch was = dressed x (s.leaveVoters ch was) := by
  have emptied : (if was.isVoter then (dressed x s).emptyQueue ch else dressed x s) =
      dressed x (if was.isVoter then s.emptyQueue ch else s) := by split <;> rfl
  simp only [State.leaveVoters, emptied]
  split
  · exact depart_dressed x _ ch _
  · rfl

theorem excludeAll_dressed (l : List Channel) : excludeAll (dressed x s) l = dressed x (excludeAll s l) :=
  List.foldl_hom (dressed x) fun s ch => leaveVoters_dressed x (Leaving.marked s .score ch) ch (s.channelState ch)

theorem updateProbation_dressed (res : RoundResult) (ch : Channel) :
    State.updateProbation res (dressed x s) ch = dressed x (State.updateProbation res s ch) := by
  rw [updateProbation_eq, updateProbation_eq]
  rfl

theorem settleMembership_dressed (before : State) :
    State.settleMembership (dressed x before) (dressed x s) = dressed x (State.settleMembership before s) := by
  rw [settleMembership_eq, settleMembership_eq]
  rfl

/-! ## The notices -/

theorem takeNotice_withVerdicts (v : List Verdict) (p : Port) (n : Notice) :
    (withVerdicts v p).takeNotice n = withVerdicts v (p.takeNotice n) := by
  unfold Port.takeNotice
  by_cases h : p.notices.length < 8
  · rw [if_pos h, if_pos (show (withVerdicts v p).notices.length < 8 from h)]
    rfl
  · rw [if_neg h, if_neg (show ¬ (withVerdicts v p).notices.length < 8 from h)]
    rfl

theorem modPort_dressed (ch : Channel) {f : Port → Port} (hf : ∀ v p, f (withVerdicts v p) = withVerdicts v (f p)) :
    (dressed x s).modPort ch f = dressed x (s.modPort ch f) := by
  have ports : (dressed x s).ports.set ch (f ((dressed x s).ports.get ch)) = (dressed x (s.modPort ch f)).ports :=
    PerChannel.eq_of_get fun o => by
      by_cases h : o = ch <;> simp [PerChannel.get_set, h, hf]
  rw [State.modPort, ports]
  rfl

theorem deliverNotices_dressed (ch : Channel) : (dressed x s).deliverNotices ch = dressed x (s.deliverNotices ch) := by
  unfold State.deliverNotices
  rw [dressed_isUp]
  cases s.isUp ch with
  | false => rfl
  | true =>
    have told := modPort_dressed x s ch (f := fun p => (noticesInOrder s.outbox ch s.freeCount).foldl Port.takeNotice p)
      fun v p => List.foldl_hom (withVerdicts v) (takeNotice_withVerdicts v)
    exact congrArg (fun t : State => { t with freeCount := s.freeCount + 4 * s.outbox.length }) told

theorem settleNotices_dressed : (dressed x s).settleNotices = dressed x s.settleNotices := by
  have delivered : Channel.all.foldl State.deliverNotices (dressed x s) =
      dressed x (Channel.all.foldl State.deliverNotices s) := List.foldl_hom (dressed x) (deliverNotices_dressed x)
  rw [State.settleNotices, State.settleNotices, delivered]
  generalize Channel.all.foldl State.deliverNotices s = t
  rfl

theorem deliverNotices_withRound (c : Cycle) (deadline : Tick) (ch : Channel) :
    (withRound s c deadline).deliverNotices ch = withRound (s.deliverNotices ch) c deadline := by
  unfold State.deliverNotices
  by_cases h : s.isUp ch = true
  · rw [if_pos h, if_pos (show (withRound s c deadline).isUp ch = true from h)]
    rfl
  · rw [if_neg h, if_neg (show ¬ (withRound s c deadline).isUp ch = true from h)]

/-- A round that joins the window makes no difference to the notices of the event. -/
theorem settleNotices_withRound (c : Cycle) (deadline : Tick) :
    (withRound s c deadline).settleNotices = withRound s.settleNotices c deadline := by
  have delivered : Channel.all.foldl State.deliverNotices (withRound s c deadline) =
      withRound (Channel.all.foldl State.deliverNotices s) c deadline :=
    List.foldl_hom (fun s => withRound s c deadline) fun s ch => deliverNotices_withRound s c deadline ch
  rw [State.settleNotices, State.settleNotices, delivered]
  generalize Channel.all.foldl State.deliverNotices s = t
  rfl

/-! ## What a close produces -/

/-- The VERDICTs that wait are as many. -/
def asMany (x : Unread) (s : State) : Prop := ∀ ch, (x.verdicts.get ch).length = (s.ports.get ch).verdicts.length

variable {x s}

theorem modPort_verdicts_dressed (ch : Channel) (l l' : List Verdict) :
    (dressed x s).modPort ch (withVerdicts l') =
      dressed { x with verdicts := x.verdicts.set ch l' } (s.modPort ch (withVerdicts l)) := by
  have ports : (dressed x s).ports.set ch (withVerdicts l' ((dressed x s).ports.get ch)) =
      (dressed { x with verdicts := x.verdicts.set ch l' } (s.modPort ch (withVerdicts l))).ports :=
    PerChannel.eq_of_get fun o => by
      by_cases h : o = ch <;> simp [PerChannel.get_set, h, withVerdicts]
  rw [State.modPort, ports]
  rfl

theorem asMany_modPort (h : asMany x s) (ch : Channel) {l l' : List Verdict} (hl : l'.length = l.length) :
    asMany { x with verdicts := x.verdicts.set ch l' } (s.modPort ch (withVerdicts l)) := fun o => by
  by_cases ho : o = ch
  · simp [ho, withVerdicts, hl]
  · simp [PerChannel.get_set, ho, h o]

/-- Another VERDICT joins or displaces as the one does (R125). -/
theorem offerVerdict_dressed (h : asMany x s) (ch : Channel) (v v' : Verdict) :
    ∃ y : Unread, y.offers = x.offers ∧ y.forcedCloses = x.forcedCloses ∧ y.history = x.history
      ∧ (dressed x s).offerVerdict ch v' = dressed y (s.offerVerdict ch v) ∧ asMany y (s.offerVerdict ch v) := by
  have waiting : ((dressed x s).ports.get ch).verdicts = x.verdicts.get ch := by rw [dressed_port]; rfl
  unfold State.offerVerdict
  rw [dressed_isUp, waiting]
  cases s.isUp ch with
  | false => exact ⟨x, rfl, rfl, rfl, rfl, h⟩
  | true =>
    simp only [if_true, h ch]
    have tails : (x.verdicts.get ch).tail.length = (s.ports.get ch).verdicts.tail.length := by simp [h ch]
    split
    · exact ⟨{ x with verdicts := x.verdicts.set ch (x.verdicts.get ch ++ [v']) }, rfl, rfl, rfl,
        modPort_verdicts_dressed ch ((s.ports.get ch).verdicts ++ [v]) (x.verdicts.get ch ++ [v']),
        asMany_modPort h ch (by simp [h ch])⟩
    · have moved := modPort_verdicts_dressed (x := x) (s := s) ch ((s.ports.get ch).verdicts.tail ++ [v])
        ((x.verdicts.get ch).tail ++ [v'])
      exact ⟨{ x with verdicts := x.verdicts.set ch ((x.verdicts.get ch).tail ++ [v']) }, rfl, rfl, rfl,
        congrArg (State.count · ch .verdictsDropped) moved,
        asMany_modPort h ch (by simp [tails])⟩

/-- The VERDICT of a channel with another close cause goes the same way. -/
theorem sendVerdict_dressed (h : asMany x s) (res : RoundResult) (cause : CloseCause) (items : List ItemResult)
    (ch : Channel) : ∃ y : Unread, y.offers = x.offers ∧ y.forcedCloses = x.forcedCloses ∧ y.history = x.history
      ∧ State.sendVerdict { res with cause := cause } items (dressed x s) ch = dressed y (State.sendVerdict res items s ch)
      ∧ asMany y (State.sendVerdict res items s ch) := by
  unfold State.sendVerdict
  dsimp only
  cases res.channels.get ch with
  | none => exact ⟨x, rfl, rfl, rfl, rfl, h⟩
  | some r => exact offerVerdict_dressed h ch _ _

theorem sendVerdicts_dressed (res : RoundResult) (cause : CloseCause) (items : List ItemResult) (l : List Channel) :
    ∀ (x : Unread) (s : State), asMany x s → ∃ y : Unread,
      y.offers = x.offers ∧ y.forcedCloses = x.forcedCloses ∧ y.history = x.history
      ∧ l.foldl (State.sendVerdict { res with cause := cause } items) (dressed x s) =
        dressed y (l.foldl (State.sendVerdict res items) s) := by
  induction l with
  | nil => exact fun x s _ => ⟨x, rfl, rfl, rfl, rfl⟩
  | cons ch l ih =>
    intro x s h
    obtain ⟨y, offers, forced, history, sent, many⟩ := sendVerdict_dressed h res cause items ch
    obtain ⟨z, offers', forced', history', sent'⟩ := ih y _ many
    refine ⟨z, offers'.trans offers, forced'.trans forced, history'.trans history, ?_⟩
    rw [List.foldl_cons, sent, sent']
    rfl

/-- What a close produces turns on its cause in the record and in the VERDICTs alone. -/
theorem produce_dressed (h : asMany x s) (res : RoundResult) (cause : CloseCause) : ∃ y : Unread,
    y.offers = x.offers ∧ y.forcedCloses = x.forcedCloses
      ∧ y.history = (⟨res.cycle, res.epoch, cause, res.outcome, s.output.state, shownItems res s.output.state⟩
        :: x.history).take 16
      ∧ (dressed x s).produce { res with cause := cause } = dressed y (s.produce res) := by
  have queued := queueDecision_dressed x s (decisionOf res s.output.state)
  have ports := s.queueDecision_keeps (decisionOf res s.output.state) .ports (by decide)
  have written : State.writeHistory ((dressed x s).queueDecision (decisionOf res s.output.state))
      ⟨res.cycle, res.epoch, cause, res.outcome, s.output.state, shownItems res s.output.state⟩ =
      dressed { x with history := (⟨res.cycle, res.epoch, cause, res.outcome, s.output.state,
          shownItems res s.output.state⟩ :: x.history).take 16 }
        (State.writeHistory (s.queueDecision (decisionOf res s.output.state))
          ⟨res.cycle, res.epoch, res.cause, res.outcome, s.output.state, shownItems res s.output.state⟩) := by
    rw [queued]
    rfl
  obtain ⟨y, offers, forced, history, sent⟩ := sendVerdicts_dressed res cause (shownItems res s.output.state) Channel.all
    { x with history := (⟨res.cycle, res.epoch, cause, res.outcome, s.output.state,
      shownItems res s.output.state⟩ :: x.history).take 16 }
    (State.writeHistory (s.queueDecision (decisionOf res s.output.state))
      ⟨res.cycle, res.epoch, res.cause, res.outcome, s.output.state, shownItems res s.output.state⟩)
    (fun ch => (h ch).trans (congrArg (fun p : PerChannel Port => (p.get ch).verdicts.length) ports).symm)
  rw [← written] at sent
  exact ⟨y, offers, forced, history, sent⟩

/-! ## The close as a whole -/

section Whole

variable {s₁ s₂ : State} {r₁ r₂ : Round} {installed : Configuration} (res : RoundResult) (cause : CloseCause)

/-- Two closes of the same cycle and votes, in states that differ where a close does not read. -/
theorem settledAt_dressed (hi : s₂.store.installed = some installed) (hcycle : r₁.cycle = r₂.cycle) (hmany : asMany x s₂)
    (hremoved : s₁.removeRound r₁.cycle = dressed x (s₂.removeRound r₂.cycle)) : ∃ y : Unread,
    y.offers = x.offers ∧ y.forcedCloses = x.forcedCloses
      ∧ y.history = (⟨res.cycle, res.epoch, cause, res.outcome, (producedAt s₂ r₂ res).output.state,
          shownItems res (producedAt s₂ r₂ res).output.state⟩ :: x.history).take 16
      ∧ producedAt s₁ r₁ { res with cause := cause } = dressed y (producedAt s₂ r₂ res)
      ∧ settledAt s₁ r₁ { res with cause := cause } = dressed y (settledAt s₂ r₂ res) := by
  have store : s₁.store = s₂.store := (congrArg State.store hremoved :)
  have recordedBoth : recorded s₁ r₁ { res with cause := cause } = dressed x (recorded s₂ r₂ res) := by
    unfold recorded
    rw [hremoved, store, hcycle]
    rfl
  have weighed : weighedAt s₁ r₁ { res with cause := cause } =
      (dressed x (weighedAt s₂ r₂ res).1, (weighedAt s₂ r₂ res).2) := by
    rw [weighedAt, recordedBoth, weighClose_dressed]
    rfl
  have installedNow : (weighedAt s₂ r₂ res).1.store.installed = some installed := by
    rw [show (weighedAt s₂ r₂ res).1.store = (recorded s₂ r₂ res).store from weighedAt_keeps s₂ r₂ res .store (by decide),
      (store_recorded s₂ r₂ res).1, hi]
  have ports : ((weighedAt s₂ r₂ res).1.moveOutput res.outcome).ports = s₂.ports :=
    outputMoved_keeps s₂ r₂ res .ports (by decide)
  obtain ⟨y, offers, forced, history, produced⟩ := produce_dressed (x := x)
    (s := (weighedAt s₂ r₂ res).1.moveOutput res.outcome) (fun ch => by rw [ports]; exact hmany ch) res cause
  have state : ((weighedAt s₂ r₂ res).1.moveOutput res.outcome).output.state = (producedAt s₂ r₂ res).output.state :=
    (produce_spec _ res).2.1.symm
  have producedBoth : producedAt s₁ r₁ { res with cause := cause } = dressed y (producedAt s₂ r₂ res) := by
    rw [producedAt, weighed, moveOutput_dressed x _ installedNow]
    exact produced
  have movedBoth : movedAt s₁ r₁ { res with cause := cause } = dressed y (movedAt s₂ r₂ res) := by
    rw [movedAt, producedBoth, weighed, excludeAll_dressed]
    exact List.foldl_hom (dressed y) fun s ch => updateProbation_dressed y s res ch
  rw [state] at history
  refine ⟨y, offers, forced, history, producedBoth, ?_⟩
  rw [settledAt, producedBoth, movedBoth, settleMembership_dressed]
  rfl

end Whole

end Sys2Proof.Proofs.CloseCause
end

section
/-! Lemmas about a mark that finds four rounds: the oldest closes as CLOSE closes it, sealed at that moment (R60, R69, R75). -/

namespace Sys2Proof.Proofs.CapacityClose

open Sys2Proof.Machine Sys2Proof.Proofs.CloseDecides Sys2Proof.Proofs.CloseSteps Sys2Proof.Proofs.CloseWhole
  Sys2Proof.Proofs.CloseDecision Sys2Proof.Proofs.MembersSettle Sys2Proof.Proofs.RoundWindow Sys2Proof.Proofs.CloseCause
  Sys2Proof.Proofs.Span Sys2Proof.Proofs.SpanList

/-! ## The oldest round, sealed at this moment (R75) -/

/-- The round as it is voted: an OPEN one as if it had sealed now, with the whole VOTING set (R75). -/
def sealedNow (s : State) (r : Round) : Round :=
  if r.sealedBy = none then { r with sealedBy := some ⟨.deadline, s.votingSet⟩ } else r

/-- The part with its oldest round so sealed. -/
def withOldest (s : State) (r : Round) (rest : List Round) : State :=
  { s with window := { s.window with rounds := sealedNow s r :: rest } }

variable {s : State} {r : Round} {rest : List Round}

theorem sealedNow_cycle : (sealedNow s r).cycle = r.cycle := by
  unfold sealedNow
  split <;> rfl

theorem sealedNow_arrival : (sealedNow s r).arrival = r.arrival := by
  unfold sealedNow
  split <;> rfl

theorem sealedNow_sealed : (sealedNow s r).isOpen = false := by
  unfold sealedNow
  split
  · rfl
  · next h =>
    obtain ⟨sl, hsl⟩ := Option.ne_none_iff_exists'.mp h
    rw [Round.isOpen, hsl]
    rfl

/-- A part whose oldest round is sealed is as sound as it was. -/
theorem sound_withOldest (hs : Sound s) (hr : s.window.rounds = r :: rest) : Sound (withOldest s r rest) where
  bounded := by
    have same : (withOldest s r rest).bounded = s.bounded := by
      rw [State.bounded, State.bounded, hr]
      rfl
    exact same ▸ hs.bounded
  store := hs.store
  group := hs.group
  output := hs.output
  links := hs.links
  members := hs.members
  scores := hs.scores
  rounds := by
    have same : (withOldest s r rest).roundsRun = s.roundsRun := by
      rw [State.roundsRun, State.roundsRun, hr]
      simp only [withOldest, List.map_cons, sealedNow_cycle]
      rfl
    exact same ▸ hs.rounds
  queues := by
    have same : (withOldest s r rest).queuesSound = s.queuesSound := by
      rw [State.queuesSound, State.queuesSound, hr]
      simp only [withOldest, List.any_cons, List.all_cons, sealedNow_cycle, sealedNow_arrival]
      rfl
    exact same ▸ hs.queues
  sealedRounds := by
    have h := hs.sealedRounds
    rw [State.completeAreSealed, hr, List.all_cons, Bool.and_eq_true] at h
    rw [State.completeAreSealed, withOldest, List.all_cons, sealedNow_sealed, Bool.false_and]
    exact h.2
  history := by
    have same : (withOldest s r rest).historyRuns = s.historyRuns := by
      rw [State.historyRuns, State.historyRuns, hr]
      simp only [withOldest, List.head?_cons, Option.map_some, sealedNow_cycle]
    exact same ▸ hs.history
  changes := hs.changes
  outbox := hs.outbox

/-- The sealing at this moment changes nothing of who is counted (R75). -/
theorem partsAtClose_sealedNow : (withOldest s r rest).partsAtClose (sealedNow s r) = s.partsAtClose r :=
  PerChannel.eq_of_get fun ch => by
    have entry : (withOldest s r rest).entryIn (sealedNow s r) ch = s.entryIn r ch := by
      rw [State.entryIn, State.entryIn, sealedNow_cycle]
      rfl
    rw [partsAtClose_get, partsAtClose_get, entry, show (withOldest s r rest).channelState ch = s.channelState ch from rfl,
      sealedNow]
    split
    · next hopen =>
      cases hst : s.channelState ch <;> simp [partOf, hopen, votingSet_get, hst]
    · rfl

/-! ## What a sound part with rounds gives -/

/-- A part with a round present is configured (R60, R79). -/
theorem installed_of_round (hs : Sound s) (hr : s.window.rounds = r :: rest) :
    ∃ installed, s.store.installed = some installed := by
  cases hi : s.store.installed with
  | some installed => exact ⟨installed, rfl⟩
  | none =>
    have group := hs.group
    have rounds := hs.rounds
    simp only [State.groupAgrees, hi, Bool.and_eq_true, Option.isNone_iff_eq_none] at group
    rw [State.roundsRun, group.2.1.1.1.2, hr] at rounds
    exact absurd (Bool.and_eq_true_iff.mp rounds).1 Bool.false_ne_true

theorem retainedFor_isSome (c : Cycle) : ∀ l : List Configuration, l ≠ [] → ∃ cfg, retainedFor c l = some cfg
  | [], h => absurd rfl h
  | [first], _ => ⟨first, rfl⟩
  | first :: next :: rest, _ => by
    rw [retainedFor]
    split
    · exact ⟨first, rfl⟩
    · exact retainedFor_isSome c (next :: rest) (List.cons_ne_nil _ _)

/-- A configured part has a configuration in force for every cycle (R8). -/
theorem inForce_of_installed {st : Store} {installed : Configuration} (hi : st.installed = some installed) (c : Cycle) :
    ∃ cfg, st.inForce c = some cfg := by
  have settled : ∃ cfg, (if st.retained ≠ [] && older c installed.firstCycle then retainedFor c st.retained
      else some installed) = some cfg := by
    split
    · next h =>
      rw [Bool.and_eq_true, decide_eq_true_eq] at h
      exact retainedFor_isSome c _ h.1
    · exact ⟨installed, rfl⟩
  simp only [Store.inForce, hi]
  cases st.awaiting with
  | none => exact settled
  | some w =>
    dsimp only
    split
    · exact ⟨w.config, rfl⟩
    · exact settled

/-- The mark on its way to the Round Window is that of the next round number (R60, R68). -/
theorem cycle_of_offer (hs : Sound s) {next : Cycle} (hn : s.window.nextRound = some next) {o : MarkOffer}
    {after : List MarkOffer} (hoffer : s.timer.offersNext .roundWindow o after) : o.cycle = next := by
  obtain ⟨before, behind, hoffers, -, htaker, -⟩ := hoffer
  have mem : o ∈ s.timer.offers := hoffers ▸ List.mem_append_right _ (List.mem_cons_self ..)
  have h := hs.rounds
  rw [State.roundsRun, hn] at h
  simp only [Bool.and_eq_true] at h
  obtain ⟨-, h⟩ := h
  cases hrun : s.timer.running with
  | none =>
    rw [hrun, Bool.and_eq_true, beq_iff_eq] at h
    rw [h.1] at mem
    cases mem
  | some t =>
    simp only [hrun, Bool.and_eq_true, beq_iff_eq, List.all_eq_true, decide_eq_true_eq] at h
    obtain ⟨⟨⟨⟨-, ahead⟩, -⟩, cycles⟩, once⟩ := h
    have one : (s.timer.offeredTo .roundWindow).length = 1 := by
      have count := List.count_eq_one_of_mem once (List.mem_map_of_mem (f := MarkOffer.taker) mem)
      rw [htaker, List.count, List.countP_map, List.countP_eq_length_filter] at count
      rw [Timer.offeredTo, List.length_map]
      exact count
    have cycle := cycles o mem
    rw [ahead, one] at cycle
    exact add_right_cancel cycle

/-! ## The close that makes room (R69) -/

/-- The close cause of the oldest round at a mark: FORCED while it is OPEN, and that of its seal when it is SEALED (R69). -/
def capacityCause (r : Round) : CloseCause :=
  match r.sealedBy with
  | none => .forced
  | some sl => sl.cause.closeCause

/-- The count of forced closes when the oldest round makes room (R69, R108). -/
def forcedAfter (s : State) (r : Round) : Nat :=
  if r.sealedBy = none then min (s.part.forcedCloses + 1) 65535 else s.part.forcedCloses

/-- The part that closes its oldest round at a mark: the mark taken off its way, and a forced close counted. -/
def atCapacity (s : State) (r : Round) (offers : List MarkOffer) : State :=
  { withOffers s offers with part := { s.part with forcedCloses := forcedAfter s r } }

theorem capacityClose_of_full (offers : List MarkOffer) (hr : s.window.rounds = r :: rest) (hfull : 3 ≤ rest.length) :
    (withOffers s offers).capacityClose = (atCapacity s r offers).closeRound r (capacityCause r) := by
  have rounds : (withOffers s offers).window.rounds = r :: rest := hr
  unfold State.capacityClose
  rw [rounds]
  dsimp only
  rw [if_pos hfull, atCapacity, capacityCause, forcedAfter]
  cases r.sealedBy <;> rfl

/-- What the close at a mark differs in from CLOSE before it starts. -/
def unreadAt (s : State) (r : Round) (offers : List MarkOffer) : Unread where
  offers := offers
  forcedCloses := forcedAfter s r
  history := s.history
  verdicts := PerChannel.build fun ch => (s.ports.get ch).verdicts

theorem removeRound_atCapacity (offers : List MarkOffer) (hr : s.window.rounds = r :: rest) :
    (atCapacity s r offers).removeRound r.cycle =
      dressed (unreadAt s r offers) ((withOldest s r rest).removeRound (sealedNow s r).cycle) := by
  have ports : (PerChannel.build fun ch => withVerdicts ((unreadAt s r offers).verdicts.get ch) (s.ports.get ch)) =
      s.ports := PerChannel.eq_of_get fun ch => by
    rw [PerChannel.get_build, unreadAt, PerChannel.get_build]
    rfl
  have rounds : s.window.rounds.filter (fun x => x.cycle != r.cycle) =
      (sealedNow s r :: rest).filter fun x => x.cycle != r.cycle := by
    rw [hr, List.filter_cons_of_neg (by simp), List.filter_cons_of_neg (by simp [sealedNow_cycle])]
  rw [State.removeRound, State.removeRound, dressed, sealedNow_cycle]
  dsimp only [atCapacity, withOldest, withOffers]
  rw [ports, rounds]
  rfl

theorem asMany_unreadAt (offers : List MarkOffer) : asMany (unreadAt s r offers) (withOldest s r rest) := fun ch => by
  rw [unreadAt, PerChannel.get_build]
  rfl

theorem resultOf_atCapacity (offers : List MarkOffer) (cfg : Configuration) (cause : CloseCause) :
    resultOf (atCapacity s r offers) r cfg (capacityCause r) =
      { resultOf (withOldest s r rest) (sealedNow s r) cfg cause with cause := capacityCause r } := by
  have parts : (atCapacity s r offers).partsAtClose r = (withOldest s r rest).partsAtClose (sealedNow s r) :=
    partsAtClose_sealedNow.symm
  rw [resultOf, resultOf, parts, sealedNow_cycle]
  rfl

/-! ## The VERDICTs under another cause (R76, R124) -/

/-- The VERDICTs that wait when the newest one carries this close cause. -/
def recast (cause : CloseCause) (l : List Verdict) : List Verdict :=
  l.dropLast ++ l.getLast?.toList.map fun v => { v with cause := cause }

theorem recast_joined (cause : CloseCause) (v : Verdict) (l : List Verdict) :
    recast cause (joined v l) = joined { v with cause := cause } l := by
  rw [recast, joined, List.dropLast_concat, List.getLast?_concat]
  rfl

theorem withVerdict_recast {res : RoundResult} {items : List ItemResult} {out : OutputState} {ch : Channel} {p : Port}
    {st st' : Standing} (cause : CloseCause) (hscore : st'.score = st.score) (hup : p.line = .up) :
    (withVerdict { res with cause := cause } items out ch (p, st')).1.verdicts =
      if (res.channels.get ch).isSome then recast cause (withVerdict res items out ch (p, st)).1.verdicts
      else (withVerdict res items out ch (p, st)).1.verdicts := by
  unfold withVerdict
  cases res.channels.get ch with
  | none => rfl
  | some r =>
    simp only [hup, if_true, Option.isSome_some, recast_joined, hscore]
    rfl


/-! ## The close and the mark as a whole -/

theorem checked_cycle (voting : ChannelSet) (x : Round) : (x.checked voting).cycle = x.cycle := by
  rw [Round.checked_eq]
  split <;> rfl

theorem withRound_cycles (u : State) (c : Cycle) (deadline : Tick) :
    (withRound u c deadline).window.rounds.map (·.cycle) = u.window.rounds.map (·.cycle) ++ [c] := by
  rw [withRound, List.map_append, List.map_singleton, checked_cycle]

/-- The cause of the seal is that of the close of a SEALED round, at a mark as at CLOSE (R69, R76). -/
theorem capacityCause_of_sealed {sl : Seal} (h : r.sealedBy ≠ none) (hsl : (sealedNow s r).sealedBy = some sl) :
    capacityCause r = sl.cause.closeCause := by
  rw [sealedNow, if_neg h] at hsl
  rw [capacityCause, hsl]

/-- What a close at a mark leaves in the places that no close reads, out of the record and the state that CLOSE leaves. -/
structure LeftAtMark (s : State) (r : Round) (offers : List MarkOffer) (d : DecisionRecord) (u : State) (y : Unread) :
    Prop where
  offers : y.offers = offers
  forcedCloses : y.forcedCloses = forcedAfter s r
  history : y.history = { d with cause := capacityCause r } :: s.history.take 15
  verdicts : ∀ ch, y.verdicts.get ch =
    if (s.channelState ch).receivesVerdict then recast (capacityCause r) (u.ports.get ch).verdicts
    else (u.ports.get ch).verdicts

section Whole

variable {installed cfg : Configuration} {cause : CloseCause} {res : RoundResult} {offers : List MarkOffer} {y : Unread}
  (hs : Sound s) (hr : s.window.rounds = r :: rest) (hi : s.store.installed = some installed)
  (hres : res = resultOf (withOldest s r rest) (sealedNow s r) cfg cause)
include hs hr hi hres

/-- The VERDICT of the newest close waits last, with the cause of the close (R124, R125). -/
theorem recast_closedAt_self {ch : Channel} (hto : (s.channelState ch).receivesVerdict = true) :
    recast res.cause ((closedAt (withOldest s r rest) (sealedNow s r) res).ports.get ch).verdicts =
      ((closedAt (withOldest s r rest) (sealedNow s r) res).ports.get ch).verdicts := by
  have sound := sound_withOldest hs hr
  obtain ⟨-, -, told⟩ := producedAt_verdict sound hi hres ch
  rw [closedAt_verdicts sound hi hres, (told hto).1, recast_joined]

/-- The VERDICTs that a close at a mark leaves are those of CLOSE, but for the cause of the newest (R69, R76, R124). -/
theorem verdicts_atCapacity (hproduced : producedAt (atCapacity s r offers) r { res with cause := capacityCause r } =
      dressed y (producedAt (withOldest s r rest) (sealedNow s r) res)) (ch : Channel) :
    y.verdicts.get ch =
      if (s.channelState ch).receivesVerdict then
        recast (capacityCause r) ((closedAt (withOldest s r rest) (sealedNow s r) res).ports.get ch).verdicts
      else ((closedAt (withOldest s r rest) (sealedNow s r) res).ports.get ch).verdicts := by
  have sound := sound_withOldest hs hr
  have hres' : { res with cause := capacityCause r } = resultOf (atCapacity s r offers) r cfg (capacityCause r) := by
    rw [hres]
    exact (resultOf_atCapacity offers cfg cause).symm
  have own := producedAt_own (s := atCapacity s r offers) (r := r) hi hres' ch
  have own' := producedAt_own (s := withOldest s r rest) hi hres ch
  have output : (producedAt (atCapacity s r offers) r { res with cause := capacityCause r }).output.state =
      (producedAt (withOldest s r rest) (sealedNow s r) res).output.state :=
    congrArg (·.output.state) hproduced
  have waiting : ((producedAt (atCapacity s r offers) r { res with cause := capacityCause r }).ports.get ch).verdicts =
      y.verdicts.get ch := by
    rw [hproduced, dressed_port]
    rfl
  have score : (newStanding (atCapacity s r offers) r cfg ch).score =
      (newStanding (withOldest s r rest) (sealedNow s r) cfg ch).score := by
    have before := congrArg (·.2.score) own
    have after := congrArg (·.2.score) own'
    rw [withVerdict_score] at before after
    exact before.symm.trans ((congrArg (fun t : State => (t.standing.get ch).score) hproduced).trans after)
  have result : res.channels.get ch = _ :=
    (congrArg (·.channels.get ch) hres).trans (channels_resultOf (withOldest s r rest) (sealedNow s r) cfg cause ch)
  have told := congrArg (·.1.verdicts) own
  have told' := congrArg (·.1.verdicts) own'
  dsimp only at told told'
  rw [closedAt_verdicts sound hi hres, told', ← waiting, told, output]
  by_cases hto : (s.channelState ch).receivesVerdict = true
  · rw [show (withOldest s r rest).channelState ch = s.channelState ch from rfl, if_pos hto] at result
    rw [if_pos hto]
    refine (withVerdict_recast (capacityCause r) score (up_of_receivesVerdict hs hto)).trans ?_
    rw [result]
    rfl
  · rw [show (withOldest s r rest).channelState ch = s.channelState ch from rfl, if_neg hto] at result
    rw [if_neg hto, withVerdict, withVerdict]
    dsimp only
    rw [result]
    rfl

/-- The close that makes room at a mark is that of CLOSE on the round sealed at this moment (R69, R75). -/
theorem closeRound_atCapacity (hf : s.store.inForce r.cycle = some cfg) (offers : List MarkOffer) : ∃ y : Unread,
    LeftAtMark s r offers (recordAt (withOldest s r rest) (sealedNow s r) res)
        (closedAt (withOldest s r rest) (sealedNow s r) res) y
      ∧ ((atCapacity s r offers).closeRound r (capacityCause r)).settleNotices =
        dressed y (closedAt (withOldest s r rest) (sealedNow s r) res)
      ∧ ((atCapacity s r offers).closeRound r (capacityCause r)).window =
        (closedAt (withOldest s r rest) (sealedNow s r) res).window := by
  obtain ⟨y, hoffers, hforced, hhistory, produced, settled⟩ := settledAt_dressed
    (s₁ := atCapacity s r offers) (s₂ := withOldest s r rest) (r₁ := r) (r₂ := sealedNow s r) res (capacityCause r) hi
    sealedNow_cycle.symm (asMany_unreadAt offers) (removeRound_atCapacity offers hr)
  have closed : (atCapacity s r offers).closeRound r (capacityCause r) =
      dressed y { settledAt (withOldest s r rest) (sealedNow s r) res with
        store := (settledAt (withOldest s r rest) (sealedNow s r) res).store.discardRetained
          (settledAt (withOldest s r rest) (sealedNow s r) res).window.rounds } := by
    rw [closeRound_eq (s := atCapacity s r offers) hf, resultOf_atCapacity offers cfg cause, ← hres, settled]
    rfl
  refine ⟨y, ⟨hoffers, hforced, hhistory, verdicts_atCapacity hs hr hi hres produced⟩, ?_, ?_⟩
  · rw [closed, settleNotices_dressed]
    rfl
  · rw [closed]
    exact (closedAt_keeps (s := withOldest s r rest) (r := sealedNow s r) (res := res) .window (by decide)).symm

/-- The rounds that a close leaves keep their cycles. -/
theorem cycles_closedAt : (closedAt (withOldest s r rest) (sealedNow s r) res).window.rounds.map (·.cycle) =
    rest.map (·.cycle) := by
  obtain ⟨rounds, -, -⟩ := closedAt_window (sound_withOldest hs hr) hi hres rfl
  rw [rounds, List.map_map]
  exact List.map_congr_left fun x _ => checked_cycle _ _

/-- A mark at capacity leaves what CLOSE leaves, with the round of the mark (R68, R69). -/
theorem exec_atCapacity {o : MarkOffer} (hf : s.store.inForce r.cycle = some cfg) (hfull : 3 ≤ rest.length)
    (hoffer : s.timer.offersNext .roundWindow o offers) : ∃ y : Unread,
    LeftAtMark s r offers (recordAt (withOldest s r rest) (sealedNow s r) res)
        (closedAt (withOldest s r rest) (sealedNow s r) res) y
      ∧ exec (.mark (.takes [.roundWindow])) s =
        .next (withRound (dressed y (closedAt (withOldest s r rest) (sealedNow s r) res)) o.cycle o.deadline) := by
  obtain ⟨y, left, closed, window⟩ := closeRound_atCapacity hs hr hi hres hf offers
  obtain ⟨next, hn⟩ := nextRound_of_installed hs hi
  have distinct := endsBefore_nodup (rounds_endBefore hs hn) (by simpa using rounds_length_le hs)
  have other : ∀ x ∈ (withOffers s offers).capacityClose.window.rounds, x.cycle ≠ o.cycle := by
    rw [capacityClose_of_full offers hr hfull, window, cycle_of_offer hs hn hoffer]
    intro x hx heq
    have mem : next ∈ rest.map (·.cycle) := by
      rw [← cycles_closedAt hs hr hi hres, ← heq]
      exact List.mem_map_of_mem hx
    rw [hr] at distinct
    exact (List.nodup_append.mp distinct).2.2 next (List.mem_cons_of_mem _ mem) next (List.mem_singleton_self _) rfl
  have taken := windowTakesMark_eq (withOffers s offers) (c := o.cycle) (deadline := o.deadline)
    (by rw [show (withOffers s offers).window = s.window from rfl, hn]; exact Option.some_ne_none _) other
  refine ⟨y, left, ?_⟩
  rw [exec_roundWindow s hoffer, taken, capacityClose_of_full offers hr hfull, settleNotices_withRound, closed]

end Whole

end Sys2Proof.Proofs.CapacityClose

open Sys2Proof.Machine Sys2Proof.Proofs.CloseWhole Sys2Proof.Proofs.CloseDecision Sys2Proof.Proofs.RoundWindow
  Sys2Proof.Proofs.CloseCause Sys2Proof.Proofs.CapacityClose Sys2Proof.Proofs.Span

/-- Settles O10: the close of a mark leaves what CLOSE leaves but for what no close reads and for the cause
(`exec_atCapacity`), and the round of the mark joins the window. -/
theorem capacityCloseAtFourRounds : Obligations.CapacityCloseAtFourRounds := by
  unfold Obligations.CapacityCloseAtFourRounds
  intro s o offers r r1 r2 r3 hs hoffer hr
  have sound := sound_withOldest hs hr
  obtain ⟨installed, hi⟩ := installed_of_round hs hr
  obtain ⟨cfg, hf⟩ := inForce_of_installed hi r.cycle
  obtain ⟨sl, hsl⟩ : ∃ sl, (sealedNow s r).sealedBy = some sl := Option.isSome_iff_exists.mp (by
    simpa [Round.isOpen] using sealedNow_sealed (s := s) (r := r))
  have close := exec_close_sealed (s := withOldest s r [r1, r2, r3]) rfl hsl (by rw [sealedNow_cycle]; exact hf)
  generalize hres : resultOf (withOldest s r [r1, r2, r3]) (sealedNow s r) cfg sl.cause.closeCause = res at close
  have cause : res.cause = sl.cause.closeCause := (congrArg RoundResult.cause hres).symm
  have hres := hres.symm
  obtain ⟨y, left, mark⟩ := exec_atCapacity hs hr hi hres hf (le_refl 3) hoffer
  obtain ⟨decisions, -, -, -⟩ := closedAt_part sound hi hres
  have cycles := cycles_closedAt hs hr hi hres
  have frame := closedAt_frame sound hi hres
  have self := fun ch => recast_closedAt_self hs hr hi hres (ch := ch)
  have history := closedAt_history (s := withOldest s r [r1, r2, r3]) (r := sealedNow s r) (res := res)
  rw [producedAt_history] at history
  generalize closedAt (withOldest s r [r1, r2, r3]) (sealedNow s r) res = u at *
  refine ⟨_, u, mark, close, ⟨u.arrivalFor o.cycle, arrivalFor_get u o.cycle, rfl⟩, ?_, ?_, decisions,
    ⟨recordAt (withOldest s r [r1, r2, r3]) (sealedNow s r) res, s.history.take 15, history, ?_, ?_⟩, fun ch => ?_, ?_, ?_⟩
  · rw [withRound_cycles]
    exact congrArg (· ++ [o.cycle]) cycles
  · change { u.part with forcedCloses := y.forcedCloses } = _
    rw [left.forcedCloses]
    rfl
  · exact (congrArg RoundResult.cycle hres).trans sealedNow_cycle
  · refine Eq.trans left.history ?_
    rw [capacityCause]
    rcases r.sealedBy with - | ⟨⟨⟩, -⟩ <;> rfl
  · refine (dressed_port y u ch).trans ?_
    rw [left.verdicts]
    by_cases hto : (s.channelState ch).receivesVerdict = true
    · by_cases hopen : r.sealedBy = none
      · rw [if_pos hto, if_pos ⟨hopen, hto⟩, capacityCause, hopen]
        rfl
      · rw [if_pos hto, if_neg fun h => hopen h.1, capacityCause_of_sealed hopen hsl, ← cause, self ch hto]
        rfl
    · rw [if_neg hto, if_neg fun h => hto h.2]
      rfl
  · change { u.timer with offers := y.offers } = _
    rw [left.offers, frame .timer (by decide)]
    rfl
  · intro b hb
    cases b <;> first | rfl | exact absurd (by decide) hb

end

section
/-! Lemmas about the vote of an item: the leading value of a list, and the lower median of its values in order (R85 to R87). -/

namespace Sys2Proof.Proofs.ItemVoting

open Sys2Proof.Machine

/-! ## EXACT (R85) -/

/-- A value that outnumbers every other of the list (R85). -/
def Leads (values : List Word16) (v : Word16) : Prop := v ∈ values ∧ ∀ w ∈ values, w ≠ v → values.count w < values.count v

theorem Leads.unique {values : List Word16} {v w : Word16} (hv : Leads values v) (hw : Leads values w) : w = v := by
  by_contra hne
  exact Nat.lt_asymm (hv.2 w hw.1 hne) (hw.2 v hv.1 (Ne.symm hne))

/-- The value that `leadingValue` looks for is the one that leads. -/
theorem leads_iff {values : List Word16} {v : Word16} : Leads values v ↔
    v ∈ values ∧ (values.all fun w => w == v || values.count w < values.count v) = true := by
  simp [Leads, or_iff_not_imp_left]

theorem leadingValue_eq_some_iff {values : List Word16} {v : Word16} : leadingValue values = some v ↔ Leads values v := by
  have found : ∀ w, leadingValue values = some w → Leads values w := fun w h => by
    have test := List.find?_some h
    exact leads_iff.mpr ⟨List.mem_of_find?_eq_some h, test⟩
  refine ⟨found v, fun hv => ?_⟩
  obtain ⟨w, hw⟩ : ∃ w, leadingValue values = some w :=
    Option.isSome_iff_exists.mp (List.find?_isSome.mpr ⟨v, leads_iff.mp hv⟩)
  rw [hw, hv.unique (found w hw)]

theorem vote_of_exact {item : SchemaItem} (h : item.matchMode = .exact) (quorum : Nat) (values : List Word16) :
    item.vote quorum values = (leadingValue values).filter fun v => quorum ≤ values.count v := by
  rw [SchemaItem.vote, h]
  cases leadingValue values <;> simp [Option.filter]

theorem agrees_of_exact {item : SchemaItem} (h : item.matchMode = .exact) (v w : Word16) :
    item.agrees v w = true ↔ w = v := by
  rw [SchemaItem.agrees, h, beq_iff_eq]

/-! ## BAND (R86, R87) -/

section Band

variable (item : SchemaItem)

theorem reading_eq (v : Word16) :
    item.reading v = if item.signedness = .signed then v.toInt else (v.toNat : Int) := by
  rw [SchemaItem.reading]
  cases item.signedness <;> rfl

/-- Different patterns read as different numbers (R86). -/
theorem reading_injective : Function.Injective item.reading := by
  intro v w h
  rw [reading_eq, reading_eq] at h
  split at h
  · exact BitVec.eq_of_toInt_eq h
  · exact BitVec.eq_of_toNat_eq (Int.ofNat_inj.mp h)

/-- The values that stand in ascending order as the item reads them (R87). -/
abbrev InOrder (values : List Word16) : Prop := values.Pairwise (item.reading ⁻¹'o (· ≤ ·))

theorem insert_eq_orderedInsert (v : Word16) (values : List Word16) :
    item.insert v values = values.orderedInsert (item.reading ⁻¹'o (· ≤ ·)) v := by
  induction values with
  | nil => rfl
  | cons w rest ih => rw [SchemaItem.insert, ih, List.orderedInsert_cons]; rfl

theorem ordered_eq_insertionSort (values : List Word16) :
    item.ordered values = values.insertionSort (item.reading ⁻¹'o (· ≤ ·)) :=
  congrArg (List.foldr · [] values) (funext₂ (insert_eq_orderedInsert item))

theorem ordered_perm (values : List Word16) : (item.ordered values).Perm values := by
  rw [ordered_eq_insertionSort]
  exact List.perm_insertionSort _ values

theorem ordered_inOrder (values : List Word16) : InOrder item (item.ordered values) := by
  rw [ordered_eq_insertionSort]
  exact List.pairwise_insertionSort _ values

/-- The order of a list leaves no choice, since no two patterns read as the same number. -/
theorem eq_ordered {values l : List Word16} (hperm : l.Perm values) (horder : InOrder item l) : l = item.ordered values :=
  have : Std.Antisymm (item.reading ⁻¹'o (· ≤ ·)) := Order.Preimage.antisymm (reading_injective item)
  (hperm.trans (ordered_perm item values).symm).eq_of_pairwise' horder (ordered_inOrder item values)

theorem candidate_eq_some_iff {values : List Word16} {v : Word16} : item.candidate values = some v ↔
    ∃ l : List Word16, l.Perm values ∧ InOrder item l ∧ l[(values.length - 1) / 2]? = some v := by
  constructor
  · exact fun h => ⟨_, ordered_perm item values, ordered_inOrder item values, h⟩
  · rintro ⟨l, hperm, horder, h⟩
    rwa [eq_ordered item hperm horder] at h

variable {item}

theorem vote_of_band (h : item.matchMode = .band) (quorum : Nat) (values : List Word16) :
    item.vote quorum values =
      (item.candidate values).filter fun v => quorum ≤ (values.filter fun w => item.agrees v w).length := by
  rw [SchemaItem.vote, h]
  cases item.candidate values <;> simp [Option.filter]

theorem agrees_of_band (h : item.matchMode = .band) (v w : Word16) :
    item.agrees v w = true ↔ (item.reading w - item.reading v).natAbs ≤ item.tolerance := by
  rw [SchemaItem.agrees, h]
  exact decide_eq_true_iff

end Band

end Sys2Proof.Proofs.ItemVoting

open Sys2Proof.Machine Sys2Proof.Proofs.ItemVoting

/-- Settles O54: the value that leads a list is the only one that does (`Leads.unique`), so the Evaluator's search finds it. -/
theorem exactVoteDecidesTheLeader : Obligations.ExactVoteDecidesTheLeader := by
  unfold Obligations.ExactVoteDecidesTheLeader
  intro item quorum values v hmode
  refine ⟨?_, agrees_of_exact hmode v⟩
  rw [vote_of_exact hmode, Option.filter_eq_some_iff, leadingValue_eq_some_iff, decide_eq_true_iff, Leads]
  exact and_assoc.trans (and_congr_right fun _ => and_comm)

/-- Settles O55: a list has one ascending order, as different patterns read as different numbers (`eq_ordered`), so its lower
median is the Evaluator's candidate. -/
theorem bandVoteDecidesTheLowerMedian : Obligations.BandVoteDecidesTheLowerMedian := by
  unfold Obligations.BandVoteDecidesTheLowerMedian
  intro item quorum values v hmode number
  have reading : number = item.reading := (funext (reading_eq item)).symm
  clear_value number
  subst reading
  refine ⟨?_, agrees_of_band hmode v⟩
  rw [vote_of_band hmode, Option.filter_eq_some_iff, candidate_eq_some_iff, decide_eq_true_iff]
  rfl

end

section
/-! Lemmas about a close whose counted set is smaller than Qi (R84, R88 to R90, R93). -/

namespace Sys2Proof.Proofs.TooFewCounted

open Sys2Proof.Machine Sys2Proof.Proofs.CloseDecides Sys2Proof.Proofs.CloseDecision

/-- No item is voted where the counted set is smaller than Qi (R84). -/
theorem votesFrom_of_few {quorum : Nat} {parts : PerChannel Part} (few : countedSize parts < quorum) (i : Nat)
    (schema : List SchemaItem) : votesFrom quorum parts i schema = schema.map fun item => ⟨item, none⟩ := by
  refine List.ext_getElem? fun j => ?_
  rw [votesFrom_getElem?, List.getElem?_map]
  simp only [if_pos few]

/-- A round none of whose items is accepted is VOID (R90); a schema has at least one item (R3). -/
theorem roundOutcome_of_undecided {schema : List SchemaItem} (h : schema ≠ []) :
    roundOutcome (schema.map fun item => ⟨item, none⟩) = .void := by
  obtain ⟨item, rest, rfl⟩ := List.exists_cons_of_ne_nil h
  simp [roundOutcome]

theorem age_eq_min (e : ItemState) (c : Cycle) :
    e.age c = if e.saturated then 255 else min (c - e.acceptanceCycle).toNat 255 := by
  rw [ItemState.age, ItemState.distance]
  split
  · rfl
  · split <;> omega

theorem dissentList_of_void {votes : List ItemVote} (void : roundOutcome votes = .void) (entry : Option QueueEntry) :
    dissentList votes entry = [] := by
  cases entry with
  | none => rfl
  | some e => exact dissentFrom_of_void void e

/-- The standing class of a judged channel in a VOID round (R93). -/
theorem standingClass_of_void {votes : List ItemVote} (void : roundOutcome votes = .void) (entry : Option QueueEntry) :
    standingClass votes entry = if entry = none then .missing else .neutral := by
  cases entry with
  | none => rfl
  | some e => simp [standingClass, dissentFrom_of_void void, abstainsFrom_of_void void, void]

end Sys2Proof.Proofs.TooFewCounted

open Sys2Proof.Machine Sys2Proof.Proofs.CloseDecides Sys2Proof.Proofs.CloseDecision Sys2Proof.Proofs.TooFewCounted

/-- Settles O56: with no item voted (`votesFrom_of_few`) every item takes its fallback, and the round is VOID, which leaves no
channel a dissent and fixes the standing class of each judged one. -/
theorem tooFewCountedChannelsMakeVoid : Obligations.TooFewCountedChannelsMakeVoid := by
  unfold Obligations.TooFewCountedChannelsMakeVoid
  intro cfg c cause parts table hschema few res
  have votes : res.votes = cfg.schema.map fun item => ⟨item, none⟩ := votesFrom_of_few few 0 cfg.schema
  have void : roundOutcome res.votes = .void := by rw [votes]; exact roundOutcome_of_undecided hschema
  have items : res.items = resultsFrom c res.votes table := rfl
  have channel : ∀ ch, res.channels.get ch = channelResult res.votes (parts.get ch) := Sys2Proof.PerChannel.get_build _
  refine ⟨void, ?_, fun i item hitem => ?_, fun ch => ?_⟩
  · rw [items, resultsFrom_length, votes, List.length_map]
  · rw [items, resultsFrom_getElem?, votes, List.getElem?_map, hitem]
    change some (item.result c none (table.getD i none)) = _
    unfold SchemaItem.result
    cases item.fallback with
    | safe => rfl
    | hold =>
      cases table.getD i none with
      | none => rfl
      | some e => exact congrArg (fun age => some (⟨e.value, .held, age⟩ : ItemResult)) (age_eq_min e c)
  · rw [channel]
    cases parts.get ch with
    | counted entry | compared entry =>
      exact ⟨_, rfl, dissentList_of_void void entry, congrArg some (standingClass_of_void void entry)⟩
    | onlooker => exact ⟨_, rfl, rfl, rfl⟩
    | outside => rfl

end

section
/-!
Lemmas about the output: the next frame of its link (R123), the table of its states, and its good run along the outcomes of
successive rounds (R115).
-/

namespace Sys2Proof.Proofs.OutputMoves

open Sys2Proof.Machine

/-! ## The link (R123) -/

section Link

variable {s : State}

/-- With no frame in transmission there is none to end. -/
theorem exec_outputTransmissionEnd_of_no_frame (h : ∀ f, s.output.link ≠ .frame f) :
    exec .outputTransmissionEnd s = .next s := by
  change execOutputTransmissionEnd s = _
  unfold execOutputTransmissionEnd
  split
  · next f link => exact absurd link (h f)
  · rfl
  · rfl

theorem exec_outputTransmissionEnd_of_frame {f : Decision} (h : s.output.link = .frame f) :
    exec .outputTransmissionEnd s = .next { s with output := s.output.nextFrame } := by
  change execOutputTransmissionEnd s = _
  simp only [execOutputTransmissionEnd, h]

theorem nextFrame_of_empty {o : OutputPort} (h : o.queue = []) : o.nextFrame = { o with link := .fill } := by
  simp only [OutputPort.nextFrame, h]

theorem nextFrame_of_waiting {o : OutputPort} {d : Decision} {rest : List Decision} (h : o.queue = d :: rest) :
    o.nextFrame = { o with link := .frame d, queue := rest } := by
  simp only [OutputPort.nextFrame, h]

end Link

/-! ## The table of the output states (R115) -/

section Table

variable {o : OutputRuns} {x : RoundOutcome} {safeAfter recoverAfter : Nat}

theorem after_of_safe (h : o.state = .safe) : o.after x safeAfter recoverAfter =
    if x = .complete then
      if recoverAfter ≤ o.goodRun + 1 then ⟨.live, o.voidRun, 0⟩ else ⟨.safe, o.voidRun, o.goodRun + 1⟩
    else ⟨.safe, o.voidRun, 0⟩ := by
  cases x <;> simp [OutputRuns.after, h]

/-- Only a close in SAFE moves the good run. -/
theorem goodRun_after_of_not_safe (h : o.state ≠ .safe) : (o.after x safeAfter recoverAfter).goodRun = o.goodRun := by
  obtain ⟨state, voidRun, goodRun⟩ := o
  cases state with
  | safe => exact absurd rfl h
  | inactive => rfl
  | live | holdover =>
    cases x with
    | complete | mixed => rfl
    | void =>
      simp only [OutputRuns.after]
      split <;> rfl

/-- SAFE is left for LIVE alone, by the COMPLETE round that brings the good run to recover_after. -/
theorem leaves_safe (h : o.state = .safe) (left : (o.after x safeAfter recoverAfter).state ≠ .safe) :
    (o.after x safeAfter recoverAfter).state = .live ∧ x = .complete ∧ recoverAfter ≤ o.goodRun + 1 := by
  rw [after_of_safe h] at left ⊢
  split at left
  · next complete =>
    split at left
    · next reached => simp [complete, reached]
    · exact absurd rfl left
  · exact absurd rfl left

end Table

/-! ## The good run (R115) -/

/-- The good run counts COMPLETE rounds at the end of `outcomes`, and is 0 outside SAFE. -/
structure GoodTail (outcomes : List RoundOutcome) (o : OutputRuns) : Prop where
  tail : List.replicate o.goodRun .complete <:+ outcomes
  outside : o.state ≠ .safe → o.goodRun = 0

theorem GoodTail.of_zero {outcomes : List RoundOutcome} {o : OutputRuns} (h : o.goodRun = 0) : GoodTail outcomes o :=
  ⟨by rw [h]; exact List.nil_suffix, fun _ => h⟩

/-- One more COMPLETE round lengthens a tail of them. -/
theorem replicate_complete_suffix {n : Nat} {outcomes : List RoundOutcome}
    (h : List.replicate n .complete <:+ outcomes) :
    List.replicate (n + 1) .complete <:+ outcomes ++ [RoundOutcome.complete] := by
  rw [List.replicate_succ']
  exact (List.suffix_append_inj_of_length_eq rfl).mpr ⟨h, rfl⟩

section Run

variable {outcomes : List RoundOutcome} {o : OutputRuns}

theorem GoodTail.after (h : GoodTail outcomes o) (x : RoundOutcome) (safeAfter recoverAfter : Nat) :
    GoodTail (outcomes ++ [x]) (o.after x safeAfter recoverAfter) := by
  by_cases safe : o.state = .safe
  · rw [after_of_safe safe]
    split
    · next complete =>
      split
      · exact .of_zero rfl
      · subst complete
        exact ⟨replicate_complete_suffix h.tail, fun left => absurd rfl left⟩
    · exact .of_zero rfl
  · exact .of_zero ((goodRun_after_of_not_safe safe).trans (h.outside safe))

/-- Along every run of outcomes from SAFE with no good round yet. -/
theorem goodTail_foldl (outcomes : List RoundOutcome) (safeAfter recoverAfter : Nat) :
    GoodTail outcomes (outcomes.foldl (fun o x => o.after x safeAfter recoverAfter) ⟨.safe, 0, 0⟩) := by
  induction outcomes using List.reverseRecOn with
  | nil => exact .of_zero rfl
  | append_singleton before x ih =>
    rw [List.foldl_append]
    exact ih.after x safeAfter recoverAfter

/-- The last rounds of a list that ends with `n` COMPLETE ones. -/
theorem complete_of_mem_take_reverse {n k : Nat} (h : List.replicate n .complete <:+ outcomes) (hk : k ≤ n)
    {x : RoundOutcome} (hx : x ∈ outcomes.reverse.take k) : x = .complete := by
  obtain ⟨before, rfl⟩ := h
  rw [List.reverse_append, List.reverse_replicate, List.take_append_of_le_length (by simpa using hk)] at hx
  exact List.eq_of_mem_replicate (List.mem_of_mem_take hx)

end Run

end Sys2Proof.Proofs.OutputMoves

open Sys2Proof.Machine Sys2Proof.Proofs.OutputMoves

/-- Settles O48: the end of a frame is `OutputPort.nextFrame`, which reads the queue. -/
theorem outputLinkSendsOldestFirst : Obligations.OutputLinkSendsOldestFirst := by
  unfold Obligations.OutputLinkSendsOldestFirst
  intro s
  refine ⟨exec_outputTransmissionEnd_of_no_frame, fun f link => ⟨fun empty => ?_, fun d rest waiting => ?_⟩⟩
  · rw [exec_outputTransmissionEnd_of_frame link, nextFrame_of_empty empty]
  · rw [exec_outputTransmissionEnd_of_frame link, nextFrame_of_waiting waiting]

/-- Settles O57: the rows are those of `OutputRuns.after`; along every run the good run counts COMPLETE rounds at its end
(`goodTail_foldl`), and SAFE is left by one more that brings it to recover_after (`leaves_safe`). -/
theorem safeIsLeftOnlyByCompleteRounds : Obligations.SafeIsLeftOnlyByCompleteRounds := by
  unfold Obligations.SafeIsLeftOnlyByCompleteRounds
  refine ⟨fun voidRun goodRun safeAfter recoverAfter => ⟨?_, rfl, rfl, rfl, ?_⟩, ?_⟩
  · rintro x (rfl | rfl) <;> exact ⟨rfl, rfl⟩
  · rintro x (rfl | rfl) <;> rfl
  · intro outcomes last safeAfter recoverAfter _ run safe left
    have last_step : run (outcomes ++ [last]) = (run outcomes).after last safeAfter recoverAfter := List.foldl_append
    have good : GoodTail outcomes (run outcomes) := goodTail_foldl outcomes safeAfter recoverAfter
    rw [last_step] at left ⊢
    obtain ⟨live, rfl, reached⟩ := leaves_safe safe left
    have counted : (run outcomes).goodRun ≤ outcomes.length := by simpa using good.tail.length_le
    exact ⟨live, by omega, fun x => complete_of_mem_take_reverse (replicate_complete_suffix good.tail) reached⟩

end

section
/-! Lemmas about a change entry by itself: its ticket (R132) and its commit test (R134). -/

namespace Sys2Proof.Proofs.EntryRules

open Sys2Proof.Machine

/-! ## Tickets (R132) -/

theorem rollTicket_ne_zero (k : Byte) : rollTicket k ≠ 0#8 := by
  revert k
  decide

theorem rollTicket_ne_self (k : Byte) : rollTicket k ≠ k := by
  revert k
  decide

theorem nextTicket_of_free {t : ChangeTable} (h : ∀ e ∈ t.entries, e.ticket ≠ rollTicket t.ticketCounter) :
    t.nextTicket = rollTicket t.ticketCounter := by
  simpa [ChangeTable.nextTicket] using fun e he hk => absurd hk (h e he)

theorem nextTicket_of_taken {t : ChangeTable} (h : ∃ e ∈ t.entries, e.ticket = rollTicket t.ticketCounter) :
    t.nextTicket = rollTicket (rollTicket t.ticketCounter) := by
  simpa [ChangeTable.nextTicket] using fun free => absurd h (by simpa using free)

/-! ## The commit test (R134) -/

theorem quorumMet_of_found {e : ChangeEntry} {r : GroupRecord} {items : List SchemaItem} (h : e.payload = .found r items)
    (installed : Option Configuration) : e.quorumMet installed = true ↔ e.concurrence = r.members := by
  simp [ChangeEntry.quorumMet, h, Payload.foundingMembers]

theorem quorumMet_of_not_found {e : ChangeEntry} (h : e.payload.foundingMembers = none)
    (installed : Option Configuration) :
    e.quorumMet installed = true ↔ ∃ cfg, installed = some cfg ∧ cfg.record.changeQuorum ≤ e.concurrence.card := by
  cases installed <;> simp [ChangeEntry.quorumMet, h]

end Sys2Proof.Proofs.EntryRules

open Sys2Proof Sys2Proof.Machine Sys2Proof.Proofs.EntryRules

/-- Settles O40: an entry's payload is a FOUND (`quorumMet_of_found`) or proposes no members (`quorumMet_of_not_found`). -/
theorem commitTestReadsTheQuorum : Obligations.CommitTestReadsTheQuorum := by
  unfold Obligations.CommitTestReadsTheQuorum
  intro e installed
  cases hp : e.payload with
  | found r items =>
    rw [quorumMet_of_found hp]
    exact ⟨fun h ch => by rw [h], PerChannel.eq_of_get⟩
  | group _ | schema _ | pardon _ | dissolve =>
    rw [quorumMet_of_not_found (by rw [hp]; rfl), ChannelSet.card_eq_length]

/-- Settles O38: the ticket after the counter's is taken unless the one entry has it, and then the one after that, which no
entry has. -/
theorem ticketsRollAndAreDistinct : Obligations.TicketsRollAndAreDistinct := by
  unfold Obligations.TicketsRollAndAreDistinct
  intro t hlen first
  by_cases free : ∀ e ∈ t.entries, e.ticket ≠ first
  · have next : t.nextTicket = first := nextTicket_of_free free
    rw [next]
    exact ⟨rollTicket_ne_zero _, free, fun _ => rfl, fun ⟨e, he, hk⟩ => absurd hk (free e he)⟩
  · have taken : ∃ e ∈ t.entries, e.ticket = first := by simpa using free
    have next : t.nextTicket = rollTicket first := nextTicket_of_taken taken
    rw [next]
    refine ⟨rollTicket_ne_zero _, fun e he => ?_, fun h => absurd h free, fun _ => rfl⟩
    obtain ⟨o, ho, hk⟩ := taken
    obtain ⟨x, single⟩ := List.length_eq_one_iff.mp (le_antisymm hlen (List.length_pos_of_mem ho))
    rw [single, List.mem_singleton] at he ho
    rw [he, ← ho, hk]
    exact (rollTicket_ne_self first).symm

end

section
/-! Lemmas about entries voided one after another (R28, R108, R140 to R143), and those that expire at a mark (R142). -/

namespace Sys2Proof.Proofs.EntryVoids

open Sys2Proof.Machine Sys2Proof.Proofs.Offers Sys2Proof.Proofs.SoundParts Sys2Proof.Proofs.FoundingExpiry
  Sys2Proof.Proofs.Departures

variable (s : State) (k : Nat) (reason : VoidReason)

/-! ## Entries voided one after another -/

/-- The part when the entries `l` have been voided. -/
def afterVoids (l : List ChangeEntry) : State :=
  { s with
    changes := { s.changes with entries := s.changes.entries.filter fun e => !(l.any fun v => v.ticket == e.ticket) }
    timer := { s.timer with
      foundingExpiries := s.timer.foundingExpiries.filter fun x => !(l.any fun v => v.ticket == x.ticket) }
    part := { s.part with changesVoided := saturate16^[l.length] s.part.changesVoided }
    outbox := s.outbox ++ l.map fun v => ⟨k, none, .changeVoided v.ticket reason⟩ }

theorem voidEntry_eq (e : ChangeEntry) : s.voidEntry k reason e.ticket = afterVoids s k reason [e] := by
  simp only [afterVoids, List.any_cons, List.any_nil, Bool.or_false, Bool.beq_comm (a := e.ticket)]
  rfl

theorem afterVoids_nil : afterVoids s k reason [] = s := by
  simp [afterVoids]

theorem afterVoids_cons (e : ChangeEntry) (l : List ChangeEntry) :
    afterVoids (afterVoids s k reason [e]) k reason l = afterVoids s k reason (e :: l) := by
  simp [afterVoids, List.filter_filter, Bool.and_comm]

theorem foldl_voidEntry (l : List ChangeEntry) :
    l.foldl (fun s e => s.voidEntry k reason e.ticket) s = afterVoids s k reason l := by
  induction l generalizing s with
  | nil => exact (afterVoids_nil s k reason).symm
  | cons e l ih => rw [List.foldl_cons, ih, voidEntry_eq, afterVoids_cons]

/-! ## The entries that expire at a mark (R142) -/

/-- The entry is PENDING and expires at the mark of cycle `c`. -/
def expires (c : Cycle) (e : ChangeEntry) : Bool := e.state == .pending && e.expiry == some c

theorem changesTakeMark_eq (c : Cycle) :
    s.changesTakeMark c = afterVoids s 0 .expired (s.changes.entries.filter (expires c)) :=
  foldl_voidEntry s 0 .expired _

variable {s} {c : Cycle}

/-- A FOUND entry has no expiry of its own (R131). -/
theorem not_isFound_of_expires (hs : Sound s) {e : ChangeEntry} (he : e ∈ s.changes.entries)
    (hx : expires c e = true) : e.isFound = false := by
  obtain ⟨entries, -, -⟩ := changes_parts hs
  simp only [expires, Bool.and_eq_true, beq_iff_eq] at hx
  obtain ⟨pending, expiry⟩ := hx
  have h := entries e he
  simp only [State.entrySound, pending, expiry, Bool.and_eq_true] at h
  obtain ⟨-, ⟨-, found⟩, -⟩ := h
  simpa using found

/-- An entry of a ticket that expires is the one that expires. -/
theorem any_expires (hs : Sound s) {e : ChangeEntry} (he : e ∈ s.changes.entries) :
    ((s.changes.entries.filter (expires c)).any fun v => v.ticket == e.ticket) = expires c e := by
  obtain ⟨-, tickets, -⟩ := changes_parts hs
  rw [Bool.eq_iff_iff, List.any_eq_true]
  constructor
  · rintro ⟨v, hv, hk⟩
    obtain ⟨hv, hx⟩ := List.mem_filter.mp hv
    rwa [← List.inj_on_of_nodup_map tickets hv he (eq_of_beq hk)]
  · exact fun hx => ⟨e, List.mem_filter.mpr ⟨he, hx⟩, beq_self_eq_true _⟩

/-- The founding expiries stay: those of FOUND entries, which expire at no mark (R28, R131). -/
theorem any_expires_of_foundingExpiry (hs : Sound s) {x : FoundingExpiry} (hx : x ∈ s.timer.foundingExpiries) :
    ((s.changes.entries.filter (expires c)).any fun v => v.ticket == x.ticket) = false := by
  obtain ⟨e, he, hex⟩ := List.any_eq_true.mp (found_entry_of_expiry hs hx)
  simp only [Bool.and_eq_true, beq_iff_eq] at hex
  obtain ⟨⟨ticket, -⟩, found⟩ := hex
  rw [← ticket, any_expires hs he, ← Bool.not_eq_true]
  exact fun hexp => Bool.false_ne_true ((not_isFound_of_expires hs he hexp).symm.trans found)

/-! ## The Change Table takes its mark (R24, R142) -/

/-- The part when a mark has been taken off its way, with those of `rest` still on theirs. -/
def unoffered (s : State) (rest : List MarkOffer) : State := { s with timer := { s.timer with offers := rest } }

theorem unoffered_keeps (rest : List MarkOffer) : s.keepsAllBut (unoffered s rest) [.timer] := fun b hb => by
  cases b <;> simp_all [State.sameBlock, unoffered]

/-- The part when the entries that expire at the mark of cycle `c` have been voided, their notices still to be placed. -/
def markVoided (s : State) (rest : List MarkOffer) (c : Cycle) : State := (unoffered s rest).changesTakeMark c

variable (rest : List MarkOffer)

theorem markVoided_eq : markVoided s rest c =
    afterVoids (unoffered s rest) 0 .expired (s.changes.entries.filter (expires c)) :=
  changesTakeMark_eq (unoffered s rest) c

theorem markVoided_keeps : s.keepsAllBut (markVoided s rest c) [.timer, .changes, .part, .outbox] :=
  ((unoffered_keeps rest).mono (by decide)).trans (State.changesTakeMark_keeps _ c)

theorem markVoided_changes (hs : Sound s) : (markVoided s rest c).changes =
    { s.changes with entries := s.changes.entries.filter fun e => !(expires c e) } := by
  rw [← List.filter_congr fun e he => congrArg (!·) (any_expires hs he), markVoided_eq]
  rfl

theorem markVoided_part (hs : Sound s) : (markVoided s rest c).part = { s.part with
    changesVoided := min (s.part.changesVoided + (s.changes.entries.filter (expires c)).length) 65535 } := by
  rw [← saturate16_iterate _ (changesVoided_le hs), markVoided_eq]
  rfl

theorem markVoided_timer (hs : Sound s) : (markVoided s rest c).timer = { s.timer with offers := rest } := by
  have stay : (s.timer.foundingExpiries.filter fun x =>
      !((s.changes.entries.filter (expires c)).any fun v => v.ticket == x.ticket)) = s.timer.foundingExpiries :=
    List.filter_eq_self.mpr fun x hx => congrArg (!·) (any_expires_of_foundingExpiry hs hx)
  rw [markVoided_eq]
  exact congrArg (fun l => ({ s.timer with offers := rest, foundingExpiries := l } : Timer)) stay

theorem markVoided_outbox (hout : s.outbox = []) : (markVoided s rest c).outbox =
    toAll ((s.changes.entries.filter (expires c)).map fun e => .changeVoided e.ticket .expired) := by
  rw [markVoided_eq, toAll, List.map_map]
  exact congrArg (· ++ _) hout

/-- The event as a whole: the reaction, and the notices placed. -/
theorem takeMark_changeTable {o : MarkOffer} (h : s.timer.offersNext .changeTable o rest) :
    s.takeMark .changeTable = (markVoided s rest o.cycle).settleNotices := by
  have reaction := CycleTimer.takeMark_of_offer s (CycleTimer.takeOffer_of_offersNext h)
  obtain ⟨_, _, _, _, taker, _⟩ := h
  simp only [State.react, taker] at reaction
  exact reaction

end Sys2Proof.Proofs.EntryVoids

open Sys2Proof Sys2Proof.Machine Sys2Proof.Proofs.EventNotices Sys2Proof.Proofs.Offers Sys2Proof.Proofs.EntryVoids

/-- Settles O13: the entries voided one after another (`markVoided_eq`) are those that expire at the mark, each by its own
ticket (`any_expires`), and no founding expiry is among theirs. -/
theorem markVoidsExpiredEntries : Obligations.MarkVoidsExpiredEntries := by
  unfold Obligations.MarkVoidsExpiredEntries
  intro s o rest hs hoffer expired
  have kept := markVoided_keeps (s := s) (c := o.cycle) rest
  have outbox := markVoided_outbox (c := o.cycle) rest (outbox_eq_nil hs)
  refine ⟨_, congrArg Host.Outcome.next (takeMark_changeTable rest hoffer), ?_, ?_, ?_, fun ch => ?_,
    keeps_settleNotices kept (outbox_eq_nil hs) (by decide) (by decide)⟩
  · exact (settleNotices_changes _).trans (markVoided_changes rest hs)
  · exact (settleNotices_part _).trans (markVoided_part rest hs)
  · exact (settleNotices_timer _).trans (markVoided_timer rest hs)
  · have offers := settleNotices_toAll outbox ch
    rwa [show (markVoided s rest o.cycle).ports = s.ports from kept .ports (by decide)] at offers

end

section
/-! Lemmas about a CONCUR and a RETRACT: their tables of checks, the concurrence that completes no entry, and the entry voided
(R133, R140). -/

namespace Sys2Proof.Proofs.ConcurRetract

open Sys2Proof.Machine Sys2Proof.Proofs.EventNotices Sys2Proof.Proofs.ChangeRequest

variable {s : State} {ch : Channel} {p : List Byte} {e : ChangeEntry}

/-! ## The entry that a ticket names -/

/-- The PENDING entry of a ticket, as the tables look for it. -/
def pendingOf (t : ChangeTable) (k : Byte) : Option ChangeEntry :=
  t.entries.find? fun e => e.ticket == k && e.state == .pending

/-- Check 1 of both tables: the ticket names no PENDING entry. -/
def namesNone (t : ChangeTable) (k : Byte) : Bool := k == 0 || (pendingOf t k).isNone

theorem named_eq (t : ChangeTable) (k : Byte) : t.named k = if k = 0 then none else pendingOf t k := rfl

theorem named_cases (t : ChangeTable) (k : Byte) :
    (namesNone t k = true ∧ t.named k = none)
      ∨ ∃ e ∈ t.entries, namesNone t k = false ∧ t.named k = some e ∧ pendingOf t k = some e ∧ e.ticket = k := by
  by_cases hk : k = 0
  · exact .inl ⟨by simp [namesNone, hk], by rw [named_eq, if_pos hk]⟩
  · rw [named_eq, if_neg hk]
    cases hf : pendingOf t k with
    | none => exact .inl ⟨by simp [namesNone, hf], rfl⟩
    | some e =>
      have found := List.find?_some hf
      simp only [Bool.and_eq_true, beq_iff_eq] at found
      exact .inr ⟨e, List.mem_of_find?_eq_some hf, by simpa [namesNone, hf] using hk, rfl, rfl, found.1⟩

/-! ## The table of CONCUR (R133) -/

/-- Checks 2 to 4 of R133 for the entry named. -/
def concurChecks (s : State) (ch : Channel) (p : List Byte) (e : ChangeEntry) : List (Bool × RefusalReason) :=
  [ (!(s.mayConcur ch e), .notVoter),
    (field32 (p ++ List.replicate 5 0) 1 != e.payloadDigest, .digestDiffers),
    (e.concurrence.get ch, .alreadyConcurred) ]

theorem firstMet_concurTable_of_none (h : namesNone s.changes (p.getD 0 0) = true) :
    firstMet (s.concurTable ch p) = some .unknownTicket := by
  rw [State.concurTable, firstMet_cons]
  exact if_pos h

theorem firstMet_concurTable (hn : namesNone s.changes (p.getD 0 0) = false)
    (he : pendingOf s.changes (p.getD 0 0) = some e) :
    firstMet (s.concurTable ch p) = firstMet (concurChecks s ch p e) := by
  rw [namesNone] at hn
  rw [pendingOf] at he hn
  rw [State.concurTable, hn, he, firstMet_cons, if_neg Bool.false_ne_true]
  cases hp : e.payload <;> simp [concurChecks, State.mayConcur, hp, Payload.foundingMembers, bne]

theorem takeConcur_of_named (h : s.changes.named (p.getD 0 0) = some e) : s.takeConcur ch p =
    if !(s.mayConcur ch e) then s.refuse ch concurKind .notVoter
    else if field32 (p ++ List.replicate 5 0) 1 ≠ e.payloadDigest then s.refuse ch concurKind .digestDiffers
    else if e.concurrence.get ch then s.refuse ch concurKind .alreadyConcurred
    else s.addConcurrence ch e := by
  simp only [State.takeConcur, show (decodeConcur p).1 = p.getD 0 0 from rfl, h]
  rfl

/-- What the Change Table does with a CONCUR: refused with the reason of the first check met, or the concurrence taken for
the entry named when none is met. -/
theorem takeConcur_cases (s : State) (ch : Channel) (p : List Byte) :
    (∃ r, firstMet (s.concurTable ch p) = some r ∧ s.takeConcur ch p = s.refuse ch concurKind r)
      ∨ ∃ e ∈ s.changes.entries, firstMet (s.concurTable ch p) = none ∧ e.ticket = p.getD 0 0
        ∧ s.takeConcur ch p = s.addConcurrence ch e := by
  obtain ⟨hn, hnamed⟩ | ⟨e, he, hn, hnamed, hf, hk⟩ := named_cases s.changes (p.getD 0 0)
  · exact .inl ⟨_, firstMet_concurTable_of_none hn, by simp only [State.takeConcur, decodeConcur, hnamed]⟩
  · simp only [firstMet_concurTable hn hf, concurChecks, firstMet_cons, firstMet_nil, takeConcur_of_named hnamed,
      bne_iff_ne]
    by_cases hmay : (!(s.mayConcur ch e)) = true
    · exact .inl ⟨.notVoter, if_pos hmay, if_pos hmay⟩
    · rw [if_neg hmay, if_neg hmay]
      by_cases hd : field32 (p ++ List.replicate 5 0) 1 ≠ e.payloadDigest
      · exact .inl ⟨.digestDiffers, if_pos hd, if_pos hd⟩
      · rw [if_neg hd, if_neg hd]
        by_cases hc : e.concurrence.get ch = true
        · exact .inl ⟨.alreadyConcurred, if_pos hc, if_pos hc⟩
        · exact .inr ⟨e, he, if_neg hc, hk, if_neg hc⟩

/-! ## A concurrence that completes no entry (R133, R134) -/

/-- The entry with channel `ch` in its concurrence set. -/
def joined (ch : Channel) (e : ChangeEntry) : ChangeEntry := { e with concurrence := e.concurrence.set ch true }

/-- The part when channel `ch` has joined the concurrence set of the entry, and before the commit test. -/
def concurred (s : State) (ch : Channel) (e : ChangeEntry) : State :=
  (s.modEntry e.ticket fun _ => joined ch e).broadcastAt 0 (.concurred e.ticket (joined ch e).concurrence.card)

theorem concurred_keeps : s.keepsAllBut (concurred s ch e) [.changes, .outbox] :=
  ((s.modEntry_keeps _ _).mono (by decide)).trans ((State.broadcastAt_keeps _ _ _).mono (by decide))

theorem addConcurrence_of_waiting (h : (joined ch e).quorumMet s.store.installed = false) :
    s.addConcurrence ch e = concurred s ch e :=
  if_neg (Bool.eq_false_iff.mp h)

theorem joined_card (ch : Channel) (e : ChangeEntry) : (joined ch e).concurrence.card =
    (Channel.all.filter fun o => o = ch || e.concurrence.get o).length := by
  rw [ChannelSet.card_eq_length]
  refine congrArg List.length (List.filter_congr fun o _ => ?_)
  by_cases ho : o = ch <;> simp [joined, PerChannel.get_set, ho]

theorem concurred_outbox (hout : s.outbox = []) : (concurred s ch e).outbox =
    [⟨0, none, .concurred e.ticket (Channel.all.filter fun o => o = ch || e.concurrence.get o).length⟩] := by
  rw [← joined_card]
  exact congrArg (· ++ _) hout

/-! ## The table of RETRACT (R140) -/

theorem firstMet_retractTable_of_none (h : namesNone s.changes (p.getD 0 0) = true) :
    firstMet (s.retractTable ch p) = some .unknownTicket := by
  rw [State.retractTable, firstMet_cons]
  exact if_pos h

theorem firstMet_retractTable (hn : namesNone s.changes (p.getD 0 0) = false)
    (he : pendingOf s.changes (p.getD 0 0) = some e) :
    firstMet (s.retractTable ch p) = if e.proposer ≠ ch then some .notVoter else none := by
  rw [namesNone] at hn
  rw [pendingOf] at he hn
  rw [State.retractTable, hn, he, firstMet_cons, if_neg Bool.false_ne_true, firstMet_cons, firstMet_nil]
  exact if_congr bne_iff_ne rfl rfl

/-- What the Change Table does with a RETRACT: refused with the reason of the first check met, or the entry named voided when
none is met. -/
theorem takeRetract_cases (s : State) (ch : Channel) (p : List Byte) :
    (∃ r, firstMet (s.retractTable ch p) = some r ∧ s.takeRetract ch p = s.refuse ch retractKind r)
      ∨ (firstMet (s.retractTable ch p) = none ∧ s.takeRetract ch p = s.voidEntry 0 .retracted (p.getD 0 0)) := by
  obtain ⟨hn, hnamed⟩ | ⟨e, -, hn, hnamed, hf, hk⟩ := named_cases s.changes (p.getD 0 0)
  · exact .inl ⟨_, firstMet_retractTable_of_none hn, by simp only [State.takeRetract, decodeRetract, hnamed]⟩
  · simp only [firstMet_retractTable hn hf, State.takeRetract, decodeRetract, hnamed]
    by_cases hp : e.proposer ≠ ch
    · exact .inl ⟨.notVoter, if_pos hp, if_pos hp⟩
    · exact .inr ⟨if_neg hp, (if_neg hp).trans (by rw [hk])⟩

theorem voidEntry_outbox (hout : s.outbox = []) (reason : VoidReason) (k : Byte) :
    (s.voidEntry 0 reason k).outbox = [⟨0, none, .changeVoided k reason⟩] :=
  congrArg (· ++ _) hout

end Sys2Proof.Proofs.ConcurRetract

open Sys2Proof Sys2Proof.Machine Sys2Proof.Proofs.EventNotices Sys2Proof.Proofs.ChangeRequest
  Sys2Proof.Proofs.ConcurRetract

/-- Settles O39: `takeConcur_cases` reads the table of R133; the request is refused alone in its event, or its entry takes the
concurrence, and where the commit test fails nothing else follows (`addConcurrence_of_waiting`). -/
theorem concurFollowsItsTable : Obligations.ConcurFollowsItsTable := by
  unfold Obligations.ConcurFollowsItsTable
  intro s ch p hpin hs hup
  have event : exec (.concur ch p) s = .next ((heard s ch).takeConcur ch p).settleNotices :=
    congrArg Host.Outcome.next (receiveGood_of_up hpin hup _)
  obtain ⟨r, hmet, htake⟩ | ⟨e, he, hmet, hk, htake⟩ := takeConcur_cases (heard s ch) ch p
  · rw [show firstMet (s.concurTable ch p) = some r from hmet]
    rw [htake] at event
    exact ⟨_, event, refusedOnly_of_refuse (outbox_eq_nil hs) hup _ r⟩
  · rw [show firstMet (s.concurTable ch p) = none from hmet]
    refine ⟨e, he, hk, fun waiting => ?_⟩
    rw [htake, addConcurrence_of_waiting (s := heard s ch) waiting] at event
    have kept : (heard s ch).keepsAllBut (concurred (heard s ch) ch e) [.changes, .outbox] := concurred_keeps
    refine ⟨_, event, settleNotices_changes _, fun x => ?_, fun x => ?_,
      keeps_settleNotices (((heard_keeps s ch).mono (by decide)).trans
        (kept.mono (m := [.changes, .standing, .ports, .outbox]) (by decide))) (outbox_eq_nil hs) (by decide) (by decide)⟩
    · rw [settleNotices_standing, show (concurred (heard s ch) ch e).standing = _ from kept .standing (by decide),
        heard_standing]
    · rw [settleNotices_port_of_broadcast _ (concurred_outbox (s := heard s ch) (outbox_eq_nil hs :)),
        show (concurred (heard s ch) ch e).ports = _ from kept .ports (by decide), heard_port]

/-- Settles O44: `takeRetract_cases` reads the table of R140, and either the request is refused alone in its event or the entry
of its ticket is voided. -/
theorem retractFollowsItsTable : Obligations.RetractFollowsItsTable := by
  unfold Obligations.RetractFollowsItsTable
  intro s ch p hpin hs hup
  refine ⟨_, congrArg Host.Outcome.next (receiveGood_of_up hpin hup _), ?_⟩
  obtain ⟨r, hmet, htake⟩ | ⟨hmet, htake⟩ := takeRetract_cases (heard s ch) ch p
  · rw [htake, show firstMet (s.retractTable ch p) = some r from hmet]
    exact refusedOnly_of_refuse (outbox_eq_nil hs) hup _ r
  · rw [htake, show firstMet (s.retractTable ch p) = none from hmet]
    have kept := (heard s ch).voidEntry_keeps 0 .retracted (p.getD 0 0)
    refine ⟨settleNotices_changes _, settleNotices_timer _, settleNotices_part _, fun x => ?_, fun x => ?_,
      keeps_settleNotices (((heard_keeps s ch).mono (by decide)).trans
        (kept.mono (m := [.changes, .timer, .part, .standing, .ports, .outbox]) (by decide))) (outbox_eq_nil hs)
        (by decide) (by decide)⟩
    · rw [settleNotices_standing, show (State.voidEntry _ 0 _ _).standing = _ from kept .standing (by decide),
        heard_standing]
    · rw [settleNotices_port_of_broadcast _ (voidEntry_outbox (s := heard s ch) (outbox_eq_nil hs :) _ _),
        show (State.voidEntry _ 0 _ _).ports = _ from kept .ports (by decide), heard_port]

end

section
/-! Lemmas about the bytes of a frame: its escapes, its two CRCs, the ten bits of a byte, and the judgement of a body (R149,
R150, R171, R172). -/

namespace Sys2Proof.Proofs.FrameBytes

open Sys2Proof.Machine

/-! ## Escapes (R171) -/

/-- A byte as it is sent holds no delimiter. -/
theorem delimiter_notMem_escaped : ∀ b : Byte, delimiter ∉ escaped b := by decide

theorem delimiter_notMem_flatMap_escaped (bytes : List Byte) : delimiter ∉ bytes.flatMap escaped := by
  intro h
  obtain ⟨b, -, hb⟩ := List.mem_flatMap.mp h
  exact delimiter_notMem_escaped b hb

theorem escaped_of_special {b : Byte} (h : b = delimiter ∨ b = escapeByte) : escaped b = [escapeByte, b ^^^ 0x20#8] :=
  if_pos h

theorem escaped_of_plain {b : Byte} (h : ¬ (b = delimiter ∨ b = escapeByte)) : escaped b = [b] := if_neg h

/-- An escape with one of its two bytes after it is taken together with it (R150). -/
theorem unescaped_escape {y : Byte} (h : y = 0xE5#8 ∨ y = 0xEA#8) (rest : List Byte) :
    unescaped (escapeByte :: y :: rest) = (unescaped rest).map ((y ^^^ 0x20#8) :: ·) := by
  simp only [unescaped, if_true, if_pos h]

theorem unescaped_badEscape {y : Byte} (h : ¬ (y = 0xE5#8 ∨ y = 0xEA#8)) (rest : List Byte) :
    unescaped (escapeByte :: y :: rest) = none := by
  simp only [unescaped, if_true, if_neg h]

theorem unescaped_plain {x : Byte} (h : x ≠ escapeByte) (rest : List Byte) :
    unescaped (x :: rest) = (unescaped rest).map (x :: ·) := by
  cases rest <;> simp [unescaped, h]

/-- The escapes of one byte are removed together. -/
theorem unescaped_escaped_append (b : Byte) (rest : List Byte) :
    unescaped (escaped b ++ rest) = (unescaped rest).map (b :: ·) := by
  by_cases h : b = delimiter ∨ b = escapeByte
  · have after : b ^^^ 0x20#8 = 0xE5#8 ∨ b ^^^ 0x20#8 = 0xEA#8 := by
      rcases h with rfl | rfl <;> decide
    rw [escaped_of_special h, List.cons_append, List.singleton_append, unescaped_escape after, BitVec.xor_assoc,
      BitVec.xor_self, BitVec.xor_zero]
  · rw [escaped_of_plain h, List.singleton_append, unescaped_plain fun e => h (.inr e)]

theorem unescaped_flatMap_escaped (bytes : List Byte) : unescaped (bytes.flatMap escaped) = some bytes := by
  induction bytes with
  | nil => rfl
  | cons b bytes ih => rw [List.flatMap_cons, unescaped_escaped_append, ih, Option.map_some]

/-- The escapes of a body that ends in an escape byte cannot be removed: the last one stands alone, or follows another escape
that it does not complete (R150). -/
theorem unescaped_append_escape : ∀ l : List Byte, unescaped (l ++ [escapeByte]) = none
  | [] => rfl
  | [x] => by
    by_cases hx : x = escapeByte
    · rw [hx]
      exact unescaped_badEscape (by decide) []
    · rw [List.singleton_append, unescaped_plain hx]
      rfl
  | x :: y :: rest => by
    by_cases hx : x = escapeByte
    · rw [hx, List.cons_append, List.cons_append]
      by_cases hy : y = 0xE5#8 ∨ y = 0xEA#8
      · rw [unescaped_escape hy, unescaped_append_escape rest, Option.map_none]
      · exact unescaped_badEscape hy _
    · rw [List.cons_append, unescaped_plain hx, unescaped_append_escape (y :: rest), Option.map_none]

/-- A body without a delimiter whose escapes can be removed is the escaped form of what they leave (R150, R171). -/
theorem eq_flatMap_escaped : ∀ {l bytes : List Byte}, delimiter ∉ l → unescaped l = some bytes →
    l = bytes.flatMap escaped
  | [], bytes, _, h => by
    obtain rfl : [] = bytes := Option.some.inj h
    rfl
  | x :: rest, bytes, hd, h => by
    obtain ⟨hx, hrest⟩ := not_or.mp (List.mem_cons.not.mp hd)
    by_cases he : x = escapeByte
    · subst he
      match rest with
      | [] => cases h
      | y :: rest =>
        by_cases hy : y = 0xE5#8 ∨ y = 0xEA#8
        · rw [unescaped_escape hy, Option.map_eq_some_iff] at h
          obtain ⟨tail, htail, rfl⟩ := h
          have special : escaped (y ^^^ 0x20#8) = [escapeByte, y] := by
            rcases hy with rfl | rfl <;> decide
          rw [List.flatMap_cons, special, ← eq_flatMap_escaped (List.not_mem_of_not_mem_cons hrest) htail]
          rfl
        · rw [unescaped_badEscape hy] at h
          cases h
    · rw [unescaped_plain he, Option.map_eq_some_iff] at h
      obtain ⟨tail, htail, rfl⟩ := h
      rw [List.flatMap_cons, escaped_of_plain fun e => e.elim (fun e => hx e.symm) he, ← eq_flatMap_escaped hrest htail]
      rfl

theorem unescaped_eq_some_iff {l bytes : List Byte} (hd : delimiter ∉ l) :
    unescaped l = some bytes ↔ l = bytes.flatMap escaped :=
  ⟨eq_flatMap_escaped hd, fun h => h ▸ unescaped_flatMap_escaped bytes⟩

/-! ## The two CRCs (R172) -/

theorem be16_toNat (w : BitVec 16) : be16 w.toNat = [w.extractLsb' 8 8, w.extractLsb' 0 8] := by
  have high : BitVec.ofNat 8 (w.toNat / 256) = w.extractLsb' 8 8 :=
    BitVec.eq_of_toNat_eq (by simp [BitVec.extractLsb'_toNat, Nat.shiftRight_eq_div_pow])
  have low : BitVec.ofNat 8 w.toNat = w.extractLsb' 0 8 :=
    BitVec.eq_of_toNat_eq (by simp [BitVec.extractLsb'_toNat])
  rw [be16, high, low]

theorem crcBit_eq {w : Nat} (generator register : BitVec w) (bit : Bool) :
    crcBit generator register bit =
      if register.msb = bit then register <<< 1 else (register <<< 1) ^^^ generator := by
  unfold crcBit
  cases register.msb <;> cases bit <;> rfl

/-- A byte joins a CRC bit by bit, the most significant first. -/
theorem crcByte_eq {w : Nat} (generator register : BitVec w) (b : Byte) :
    crcByte generator register b = ([7, 6, 5, 4, 3, 2, 1, 0].map b.getLsbD).foldl
      (fun (r : BitVec w) bit => if r.msb = bit then r <<< 1 else (r <<< 1) ^^^ generator) register := by
  simp only [crcByte, List.foldl_map, crcBit_eq]

theorem crc16_append (bytes : List Byte) (b : Byte) : crc16 (bytes ++ [b]) = crcByte 0x1021#16 (crc16 bytes) b :=
  List.foldl_append

theorem crc32_append (bytes : List Byte) (b : Byte) : crc32 (bytes ++ [b]) = crcByte 0x04C11DB7#32 (crc32 bytes) b :=
  List.foldl_append

/-! ## The ten bits of a byte (R149, R171) -/

/-- A byte whose stop bit is low is received with a framing error. -/
theorem receivedBytes_lowStop (b : Byte) (rest : List Bool) :
    receivedBytes ((bitsOnLine b).dropLast ++ false :: rest) = ⟨b, true⟩ :: receivedBytes rest := by
  have data : BitVec.ofBoolListLE [b.getLsbD 0, b.getLsbD 1, b.getLsbD 2, b.getLsbD 3, b.getLsbD 4, b.getLsbD 5,
      b.getLsbD 6, b.getLsbD 7] = b := congrArg RxByte.data (List.cons.inj (receivedBytes_bitsOnLine b [])).1
  simp only [bitsOnLine, List.dropLast_cons_cons, List.dropLast_singleton, List.cons_append, List.nil_append, receivedBytes,
    data, Bool.not_false]

theorem bitsOnLine_getElem? (b : Byte) {i : Nat} (h : i < 8) : (bitsOnLine b)[i + 1]? = some (b.getLsbD i) := by
  match i, h with
  | 0, _ | 1, _ | 2, _ | 3, _ | 4, _ | 5, _ | 6, _ | 7, _ => rfl

/-- Bytes sent with the line at rest between them are received as they were sent. -/
theorem receivedBytes_flatMap (bytes : List Byte) (gap : Nat) :
    receivedBytes (bytes.flatMap fun b => bitsOnLine b ++ List.replicate gap restLevel) = bytes.map fun b => ⟨b, false⟩ := by
  induction bytes with
  | nil => rfl
  | cons b bytes ih =>
    rw [List.flatMap_cons, List.append_assoc, receivedBytes_bitsOnLine, receivedBytes_rest, ih, List.map_cons]

/-! ## The judgement (R149, R150) -/

theorem frameBody_eq (kind : Byte) (payload : List Byte) : frameBody kind payload =
    kind :: BitVec.ofNat 8 payload.length :: (payload
      ++ be16 (crc16 (kind :: BitVec.ofNat 8 payload.length :: payload)).toNat) := rfl

/-- The bytes judged good are those of a frame's body: kind, length, payload and CRC, and none besides (R150, R171). -/
theorem judgeBytes_eq_good_iff {bytes : List Byte} {kind : Byte} {payload : List Byte} :
    judgeBytes bytes = .good kind payload ↔ payload.length ≤ 255 ∧ bytes = frameBody kind payload := by
  constructor
  · intro h
    match bytes with
    | [] | [_] => cases h
    | k :: len :: rest =>
      unfold judgeBytes at h
      dsimp only at h
      split at h
      · next hgood =>
        obtain ⟨hlen, hcrc⟩ := hgood
        obtain ⟨rfl, rfl⟩ : k = kind ∧ rest.take len.toNat = payload := Judgement.good.inj h
        have length : (rest.take len.toNat).length = len.toNat := by rw [List.length_take]; omega
        have coded : BitVec.ofNat 8 (rest.take len.toNat).length = len := by rw [length, BitVec.ofNat_toNat]; simp
        refine ⟨by rw [length]; omega, ?_⟩
        rw [frameBody_eq, coded, ← hcrc, List.take_append_drop]
      · cases h
  · rintro ⟨hlen, rfl⟩
    have coded : (BitVec.ofNat 8 payload.length).toNat = payload.length := by rw [BitVec.toNat_ofNat]; omega
    rw [frameBody_eq, judgeBytes]
    simp [coded, be16]

/-- A body is judged by its bytes alone when it ended in time and holds no framing error. -/
theorem judge_eq_good_iff {body : List RxByte} {start now : Tick} {kind : Byte} {payload : List Byte} :
    judge body start now = .good kind payload ↔
      (body.length < 300 ∧ (now - start).toNat ≤ 150) ∧ (∀ x ∈ body, x.framingError = false)
        ∧ ∃ bytes, unescaped (body.map (·.data)) = some bytes ∧ judgeBytes bytes = .good kind payload := by
  have inTime : endsInTime body start now = true ↔ body.length < 300 ∧ (now - start).toNat ≤ 150 := by
    simp only [endsInTime, frameLimit, Bool.and_eq_true, decide_eq_true_eq, Nat.succ_le_iff]
  have whole : (body.all fun b => !b.framingError) = true ↔ ∀ x ∈ body, x.framingError = false := by
    simp only [List.all_eq_true, Bool.not_eq_true']
  rw [← inTime, ← whole, ← and_assoc, ← Bool.and_eq_true]
  unfold judge
  split
  · next h =>
    rw [h]
    cases unescaped (body.map (·.data)) <;> simp
  · next h => simp [h]

theorem bad_of_not_good {j : Judgement} (h : ∀ kind payload, j ≠ .good kind payload) : j = .bad := by
  cases j with
  | good kind payload => exact absurd rfl (h kind payload)
  | bad => rfl

theorem judge_of_framingError {body : List RxByte} (start now : Tick) (h : ∃ x ∈ body, x.framingError = true) :
    judge body start now = .bad := by
  obtain ⟨x, hx, error⟩ := h
  refine bad_of_not_good fun kind payload good => ?_
  obtain ⟨-, whole, -⟩ := judge_eq_good_iff.mp good
  exact Bool.false_ne_true ((whole x hx).symm.trans error)

/-- What a port sends when it abandons a frame ends a body that no receiver takes (R150, R154). -/
theorem judge_of_cut (received : List RxByte) (framingError : Bool) (start now : Tick) :
    judge (received ++ [⟨escapeByte, framingError⟩]) start now = .bad := by
  refine bad_of_not_good fun kind payload good => ?_
  obtain ⟨-, -, bytes, removed, -⟩ := judge_eq_good_iff.mp good
  rw [List.map_append, List.map_singleton, unescaped_append_escape] at removed
  cases removed

/-- A body with no delimiter and no framing error is judged good exactly as a frame sent in time (R149, R150, R171). -/
theorem judge_eq_good_iff_sent {body : List RxByte} (h : ∀ x ∈ body, x.data ≠ delimiter ∧ x.framingError = false)
    (start now : Tick) (kind : Byte) (payload : List Byte) : judge body start now = .good kind payload ↔
      body.length < 300 ∧ (now - start).toNat ≤ 150 ∧ payload.length ≤ 255
        ∧ body.map (·.data) = bodyOnLine kind payload := by
  have plain : delimiter ∉ body.map (·.data) := fun hm => by
    obtain ⟨x, hx, hd⟩ := List.mem_map.mp hm
    exact (h x hx).1 hd
  simp only [judge_eq_good_iff, unescaped_eq_some_iff plain, judgeBytes_eq_good_iff, bodyOnLine]
  constructor
  · rintro ⟨⟨length, time⟩, -, bytes, sent, fits, rfl⟩
    exact ⟨length, time, fits, sent⟩
  · rintro ⟨length, time, fits, sent⟩
    exact ⟨⟨length, time⟩, fun x hx => (h x hx).2, _, sent, fits, rfl⟩

/-- The body of a frame as a receive side collects it. -/
def sentBody (kind : Byte) (payload : List Byte) : List RxByte := (bodyOnLine kind payload).map fun b => ⟨b, false⟩

theorem sentBody_plain {kind : Byte} {payload : List Byte} :
    ∀ x ∈ sentBody kind payload, x.data ≠ delimiter ∧ x.framingError = false := by
  intro x hx
  obtain ⟨b, hb, rfl⟩ := List.mem_map.mp hx
  refine ⟨?_, rfl⟩
  rintro (rfl : b = delimiter)
  exact delimiter_notMem_flatMap_escaped _ hb

theorem judge_sentBody {kind : Byte} {payload : List Byte} {start now : Tick} (hd : deliverable kind payload = true)
    (time : (now - start).toNat ≤ 150) : judge (sentBody kind payload) start now = .good kind payload := by
  obtain ⟨fits, length⟩ := (Laws.WellFormedMeans.deliverable_iff kind payload).mp hd
  refine (judge_eq_good_iff_sent sentBody_plain start now kind payload).mpr ⟨?_, time, fits, ?_⟩
  · rwa [sentBody, List.length_map]
  · simp only [sentBody, List.map_map, Function.comp_def, List.map_id']

/-- The levels of a frame on the line bring its two delimiters and the body between them (R149, R171). -/
theorem receivedBytes_frameOnLine (kind : Byte) (payload : List Byte) :
    receivedBytes ((frameOnLine kind payload).flatMap bitsOnLine) =
      ⟨delimiter, false⟩ :: sentBody kind payload ++ [⟨delimiter, false⟩] := by
  have received := receivedBytes_flatMap (frameOnLine kind payload) 0
  simp only [List.replicate_zero, List.append_nil] at received
  rw [received, frameOnLine, List.map_append, List.map_cons]
  rfl

end Sys2Proof.Proofs.FrameBytes

open Sys2Proof Sys2Proof.Machine Sys2Proof.Proofs.FrameBytes

/-- Settles O26: the layout is that of the model, with the CRC's bytes by `be16_toNat` and its bits by `crcByte_eq`; the
levels bring the body that was sent (`receivedBytes_frameOnLine`), and it is judged good (`judge_sentBody`). -/
theorem sentFrameIsJudgedGood : Obligations.SentFrameIsJudgedGood := by
  unfold Obligations.SentFrameIsJudgedGood
  refine ⟨fun kind payload => ⟨rfl, ?_⟩, ⟨rfl, rfl, fun bytes b => ⟨?_, ?_⟩⟩,
    fun kind payload start now hd time => ?_⟩
  · rw [← be16_toNat]
    rfl
  · rw [crc16_append, crcByte_eq]
  · rw [crc32_append, crcByte_eq]
  · exact ⟨sentBody kind payload, receivedBytes_frameOnLine kind payload, fun x hx => (sentBody_plain x hx).1,
      judge_sentBody hd time⟩

/-- Settles O27: escaping is undone byte by byte (`unescaped_flatMap_escaped`), a last escape byte is never undone
(`judge_of_cut`), and a body is good exactly as a frame that was sent (`judge_eq_good_iff_sent`). -/
theorem escapingIsUndoneAndCutFramesAreBad : Obligations.EscapingIsUndoneAndCutFramesAreBad := by
  unfold Obligations.EscapingIsUndoneAndCutFramesAreBad
  exact ⟨fun bytes => ⟨delimiter_notMem_flatMap_escaped bytes, unescaped_flatMap_escaped bytes⟩, judge_of_cut,
    receivedBytes_flatMap, fun b rest => ⟨rfl, rfl, rfl, fun _ => bitsOnLine_getElem? b, receivedBytes_lowStop b rest⟩,
    fun body start now => judge_of_framingError start now, fun body start now h => judge_eq_good_iff_sent h start now⟩

end

section
/-! Lemmas about the bytes that a port receives: the line whose RST_N is low, the first byte on a DOWN line, and what each
byte does to the receiver of a HUNT or UP line (R148 to R151, R153, R160). -/

namespace Sys2Proof.Proofs.LineBytes

open Sys2Proof.Machine Sys2Proof.Proofs.CycleTimer Sys2Proof.Proofs.HuntLine Sys2Proof.Proofs.FrameBytes

variable {s : State} {ch : Channel}

/-! ## While RST_N is low (R160) -/

theorem receiving_of_low (hpin : s.resetPin = .low) : s.receiving = false := by
  rw [State.receiving, hpin]
  rfl

theorem receiving_of_high (hpin : s.resetPin = .high) : s.receiving = true := by
  rw [State.receiving, hpin]
  rfl

theorem receiveGood_of_low (hpin : s.resetPin = .low) (hand : State → State) : s.receiveGood ch hand = s := by
  rw [State.receiveGood, receiving_of_low hpin]
  rfl

theorem receiveByte_of_low (hpin : s.resetPin = .low) (b : RxByte) : s.receiveByte ch b = s := by
  rw [State.receiveByte, receiving_of_low hpin]
  rfl

theorem quietLine_of_low (hpin : s.resetPin = .low) : s.quietLine ch = s := by
  rw [State.quietLine, receiving_of_low hpin]
  rfl

theorem unknownKind_of_low (hpin : s.resetPin = .low) (kind : Byte) : exec (.unknownKind ch kind) s = .next s := by
  simp only [exec, execUnknownKind, receiveGood_of_low hpin, ite_self]

/-! ## A byte at a port -/

theorem isDelimiter_iff {b : RxByte} : isDelimiter b = true ↔ b.data = 0xC5#8 ∧ b.framingError = false := by
  simp only [isDelimiter, delimiter, Bool.and_eq_true, beq_iff_eq, Bool.not_eq_true']

theorem receiveByte_of_down (hpin : s.resetPin = .high) (hline : (s.ports.get ch).line = .down) (b : RxByte) :
    s.receiveByte ch b = s.wakeLine ch b := by
  simp only [State.receiveByte, receiving_of_high hpin, hline, if_true]

/-- A byte on a HUNT or UP line is collected, and its event is then taken whole. -/
theorem lineActivity_of_active (hpin : s.resetPin = .high) (hline : (s.ports.get ch).line ≠ .down) (b : RxByte) :
    exec (.lineActivity ch b) s = .next (s.collect ch b).settleNotices := by
  have received : s.receiveByte ch b = (s.collect ch b).settleNotices := by
    rw [State.receiveByte, if_pos (receiving_of_high hpin)]
    cases h : (s.ports.get ch).line with
    | down => exact absurd h hline
    | hunt | up => rfl
  exact congrArg Host.Outcome.next received

theorem frameAbort_of_active (hpin : s.resetPin = .high) (hline : (s.ports.get ch).line ≠ .down) :
    exec (.frameAbort ch) s = .next (s.abortFrame ch).settleNotices := by
  simp [exec, execFrameAbort, receiving_of_high hpin, hline]

theorem badFrame_of_active (hpin : s.resetPin = .high) (hline : (s.ports.get ch).line ≠ .down) :
    exec (.badFrame ch) s = .next ((s.reopenFrame ch).judgedBad ch).settleNotices := by
  simp [exec, execBadFrame, receiving_of_high hpin, hline]

theorem receiveGood_of_active (hpin : s.resetPin = .high) (hline : (s.ports.get ch).line ≠ .down) (hand : State → State) :
    s.receiveGood ch hand = ((s.reopenFrame ch).judgedGood ch hand).settleNotices := by
  simp [State.receiveGood, receiving_of_high hpin, hline]

/-! ## What a byte does to the receiver (R149) -/

/-- The state with the receiver of channel `ch`'s port in this phase. -/
def withReceiver (ch : Channel) (r : Receiver) (s : State) : State := s.modPort ch fun p => { p with receiver := r }

theorem withReceiver_port (r : Receiver) : (withReceiver ch r s).ports.get ch = { s.ports.get ch with receiver := r } :=
  PerChannel.get_set_same _ _ _

theorem withReceiver_line (r : Receiver) : ((withReceiver ch r s).ports.get ch).line = (s.ports.get ch).line := by
  rw [withReceiver_port]

theorem withReceiver_receiver (r : Receiver) : ((withReceiver ch r s).ports.get ch).receiver = r := by
  rw [withReceiver_port]

theorem withReceiver_same {r : Receiver} (h : (s.ports.get ch).receiver = r) : withReceiver ch r s = s := by
  subst h
  exact congrArg (fun p : PerChannel Port => { s with ports := p }) (s.ports.set_get ch)

theorem withReceiver_store (r : Receiver) : (withReceiver ch r s).store = s.store := rfl

theorem withReceiver_standing (r : Receiver) : (withReceiver ch r s).standing = s.standing := rfl

theorem withReceiver_withReceiver (q r : Receiver) : withReceiver ch q (withReceiver ch r s) = withReceiver ch q s := by
  simp only [withReceiver, State.modPort, PerChannel.get_set_same, PerChannel.set_set]

theorem reopenFrame_eq : s.reopenFrame ch = withReceiver ch (.inFrame [] s.timer.tickCount) s := rfl

section Collect

variable {b : RxByte} {body : List RxByte} {start : Tick}

theorem collect_seeking (h : (s.ports.get ch).receiver = .seeking) :
    s.collect ch b = if isDelimiter b then s.reopenFrame ch else s := by
  simp only [State.collect, h]

theorem collect_delimiter (h : (s.ports.get ch).receiver = .inFrame body start) (hd : isDelimiter b = true) :
    s.collect ch b = if body = [] then s.reopenFrame ch else s.endFrame ch body start := by
  simp only [State.collect, h, hd, if_true]

theorem collect_joins (h : (s.ports.get ch).receiver = .inFrame body start) (hd : ¬ isDelimiter b = true)
    (hlen : body.length < 299) : s.collect ch b = withReceiver ch (.inFrame (body ++ [b]) start) s := by
  have inTime : ¬ frameLimit ≤ body.length + 1 := by
    rw [frameLimit]
    omega
  simp only [State.collect, h, if_neg hd, if_neg inTime]
  rfl

theorem collect_aborts (h : (s.ports.get ch).receiver = .inFrame body start) (hd : ¬ isDelimiter b = true)
    (hlen : 299 ≤ body.length) : s.collect ch b = s.abortFrame ch := by
  have late : frameLimit ≤ body.length + 1 := by
    rw [frameLimit]
    omega
  simp only [State.collect, h, if_neg hd, if_pos late]

theorem endFrame_of_bad (h : judge body start s.timer.tickCount = .bad) :
    s.endFrame ch body start = (s.reopenFrame ch).judgedBad ch := by
  simp only [State.endFrame, h]

theorem endFrame_of_good {kind : Byte} {payload : List Byte}
    (h : judge body start s.timer.tickCount = .good kind payload) :
    s.endFrame ch body start = (s.reopenFrame ch).judgedGood ch (State.handOver ch kind payload) := by
  simp only [State.endFrame, h]

end Collect

/-! ## A good frame, byte by byte and as one command (log entry 8) -/

/-- The command of a good frame hands it to the owner of its kind (R153). -/
theorem exec_frameCommand (ch : Channel) (kind : Byte) (payload : List Byte) (s : State) :
    exec (frameCommand ch kind payload) s = .next (s.receiveGood ch (State.handOver ch kind payload)) := by
  by_cases taken : kind ∈ takenKinds
  · simp only [takenKinds, List.mem_cons, List.not_mem_nil, or_false] at taken
    obtain rfl | rfl | rfl | rfl | rfl | rfl | rfl := taken <;> rfl
  · have unknown : takenKinds.contains kind = false := by simpa using taken
    simp only [takenKinds, List.mem_cons, List.not_mem_nil, or_false, not_or] at taken
    obtain ⟨announce, leave, proposal, change, concur, retract, read⟩ := taken
    have command : frameCommand ch kind payload = .unknownKind ch kind := by
      simp only [frameCommand, announce, leave, proposal, change, concur, retract, read, if_false]
    have owner : State.handOver ch kind payload = fun s => s.takeUnknown ch kind := by
      funext s
      exact (if_neg announce).trans <| (if_neg leave).trans <| (if_neg proposal).trans <| (if_neg change).trans <|
        (if_neg concur).trans <| (if_neg retract).trans (if_neg read)
    rw [command, owner]
    simp only [exec, execUnknownKind, unknown]
    rfl

/-- The good frame on an active line as one command: in UP that of its kind, in HUNT the judged frame. -/
theorem goodFrame_eq (hpin : s.resetPin = .high) (hline : (s.ports.get ch).line ≠ .down) (hout : s.outbox = [])
    (kind : Byte) (payload : List Byte) :
    (if (s.ports.get ch).line = .up then exec (frameCommand ch kind payload) s else exec (.huntFrame ch true) s) =
      .next (s.receiveGood ch (State.handOver ch kind payload)) := by
  cases h : (s.ports.get ch).line with
  | down => exact absurd h hline
  | up => rw [if_pos rfl, exec_frameCommand]
  | hunt => rw [if_neg (by decide), huntFrame_true hpin h, receiveGood_of_hunt hpin h hout]

theorem ne_nil_of_judge_good {body : List RxByte} {start now : Tick} {kind : Byte} {payload : List Byte}
    (h : judge body start now = .good kind payload) : body ≠ [] := by
  rintro rfl
  obtain ⟨-, -, bytes, removed, good⟩ := judge_eq_good_iff.mp h
  cases removed
  cases good

/-- The closing delimiter of a good frame has the frame's whole effect (R149, R153). -/
theorem lineActivity_of_good (hpin : s.resetPin = .high) (hline : (s.ports.get ch).line ≠ .down) {b : RxByte}
    (hd : isDelimiter b = true) {body : List RxByte} {start : Tick} {kind : Byte} {payload : List Byte}
    (h : (s.ports.get ch).receiver = .inFrame body start)
    (good : judge body start s.timer.tickCount = .good kind payload) :
    exec (.lineActivity ch b) s = .next (s.receiveGood ch (State.handOver ch kind payload)) := by
  rw [lineActivity_of_active hpin hline, collect_delimiter h hd, if_neg (ne_nil_of_judge_good good), endFrame_of_good good,
    receiveGood_of_active hpin hline]

/-- A body collected so far makes no difference to a frame that comes as one command (log entry 8). -/
theorem receiveGood_withReceiver (hpin : s.resetPin = .high) (hline : (s.ports.get ch).line ≠ .down) (r : Receiver)
    (hand : State → State) : (withReceiver ch r s).receiveGood ch hand = s.receiveGood ch hand := by
  have line : ((withReceiver ch r s).ports.get ch).line ≠ .down := by rwa [withReceiver_line]
  have reopened : (withReceiver ch r s).reopenFrame ch = s.reopenFrame ch := withReceiver_withReceiver _ r
  rw [receiveGood_of_active (s := withReceiver ch r s) hpin line, receiveGood_of_active hpin hline, reopened]

/-- Bytes that are no delimiters join the body one after another (R149). -/
theorem runAll_joins (bytes : List Byte) : ∀ {s : State} {body : List RxByte} {start : Tick}, s.resetPin = .high →
    (s.ports.get ch).line ≠ .down → s.outbox = [] → (s.ports.get ch).receiver = .inFrame body start →
    delimiter ∉ bytes → body.length + bytes.length < 300 →
    runAll (bytes.map fun x => .lineActivity ch ⟨x, false⟩) s =
      .next (withReceiver ch (.inFrame (body ++ bytes.map fun x => ⟨x, false⟩) start) s) := by
  induction bytes with
  | nil =>
    intro s body start _ _ _ h _ _
    exact congrArg Host.Outcome.next (withReceiver_same (h.trans (by simp))).symm
  | cons x bytes ih =>
    intro s body start hpin hline hout h hd hlen
    obtain ⟨hx, hbytes⟩ := not_or.mp (List.mem_cons.not.mp hd)
    have room : body.length + (bytes.length + 1) < 300 := hlen
    have plain : ¬ isDelimiter ⟨x, false⟩ = true := fun e => hx (isDelimiter_iff.mp e).1.symm
    have joined : exec (.lineActivity ch ⟨x, false⟩) s =
        .next (withReceiver ch (.inFrame (body ++ [⟨x, false⟩]) start) s) := by
      rw [lineActivity_of_active hpin hline, collect_joins h plain (by omega),
        State.settleNotices_of_empty (withReceiver ch _ s) hout]
    have rest := ih (s := withReceiver ch (.inFrame (body ++ [⟨x, false⟩]) start) s) hpin
      (by rwa [withReceiver_line]) hout (withReceiver_receiver _) hbytes
      (by rw [List.length_append, List.length_singleton]; omega)
    rw [withReceiver_withReceiver, List.append_assoc] at rest
    rw [List.map_cons, runAll, joined]
    exact rest

/-- A frame received byte by byte after its opening delimiter has the frame's whole effect (R149, R171). -/
theorem runAll_frame (hpin : s.resetPin = .high) (hline : (s.ports.get ch).line ≠ .down) (hout : s.outbox = [])
    {start : Tick} (h : (s.ports.get ch).receiver = .inFrame [] start) {kind : Byte} {payload : List Byte}
    (hd : deliverable kind payload = true) (time : (s.timer.tickCount - start).toNat ≤ 150) :
    runAll ((bodyOnLine kind payload ++ [delimiter]).map fun x => .lineActivity ch ⟨x, false⟩) s =
      .next (s.receiveGood ch (State.handOver ch kind payload)) := by
  have length := ((Laws.WellFormedMeans.deliverable_iff kind payload).mp hd).2
  have collected : runAll ((bodyOnLine kind payload).map fun x => .lineActivity ch ⟨x, false⟩) s =
      .next (withReceiver ch (.inFrame (sentBody kind payload) start) s) :=
    runAll_joins _ hpin hline hout h (delimiter_notMem_flatMap_escaped _) (by rwa [List.length_nil, Nat.zero_add])
  have closed : exec (.lineActivity ch ⟨delimiter, false⟩) (withReceiver ch (.inFrame (sentBody kind payload) start) s) =
      .next (s.receiveGood ch (State.handOver ch kind payload)) := by
    rw [lineActivity_of_good (s := withReceiver ch _ s) hpin (by rwa [withReceiver_line]) rfl (withReceiver_receiver _)
      (judge_sentBody hd time), receiveGood_withReceiver hpin hline]
  rw [List.map_append, runAll_append s collected, List.map_singleton, runAll, closed]
  rfl

/-! ## An aborted frame (R149) -/

section Unread

variable (s ch) (r : Receiver)

/-! The receiver of a port is read by nothing that a bad frame does. -/

theorem modPort_withReceiver (o : Channel) {f : Port → Port}
    (h : ∀ p : Port, f { p with receiver := r } = { f p with receiver := r }) :
    (withReceiver ch r s).modPort o f = withReceiver ch r (s.modPort o f) := by
  refine congrArg (fun p : PerChannel Port => { s with ports := p }) (PerChannel.eq_of_get fun x => ?_)
  simp only [withReceiver, State.modPort]
  by_cases ho : x = o
  · subst ho
    by_cases hc : x = ch
    · subst hc
      simp only [PerChannel.get_set_same, h]
    · simp only [PerChannel.get_set_same, PerChannel.get_set_other _ hc]
  · by_cases hc : x = ch
    · subst hc
      simp only [PerChannel.get_set_same, PerChannel.get_set_other _ ho]
    · simp only [PerChannel.get_set_other _ ho, PerChannel.get_set_other _ hc]

theorem depart_withReceiver (o : Channel) (g : ChangeEntry → Bool) :
    (withReceiver ch r s).depart o g = withReceiver ch r (s.depart o g) := by
  refine List.foldl_hom (withReceiver ch r) fun s e => ?_
  simp only [State.departFrom]
  split
  · rfl
  · split <;> rfl

theorem leaveVoters_withReceiver (o : Channel) (was : ChannelState) :
    (withReceiver ch r s).leaveVoters o was = withReceiver ch r (s.leaveVoters o was) := by
  have emptied : (if was.isVoter then (withReceiver ch r s).emptyQueue o else withReceiver ch r s) =
      withReceiver ch r (if was.isVoter then s.emptyQueue o else s) := by split <;> rfl
  simp only [State.leaveVoters, emptied]
  split
  · exact depart_withReceiver _ ch r o _
  · rfl

theorem excludeChannel_withReceiver (reason : ExclusionReason) (o : Channel) :
    (withReceiver ch r s).excludeChannel reason o = withReceiver ch r (s.excludeChannel reason o) :=
  leaveVoters_withReceiver (Leaving.marked s reason o) ch r o (s.channelState o)

theorem settleMembership_withReceiver (before : State) :
    State.settleMembership (withReceiver ch r before) (withReceiver ch r s) =
      withReceiver ch r (State.settleMembership before s) := by
  rw [MembersSettle.settleMembership_eq, MembersSettle.settleMembership_eq]
  rfl

theorem weigh_withReceiver (o : Channel) (w : Int) :
    (withReceiver ch r s).weigh o w = (withReceiver ch r (s.weigh o w).1, (s.weigh o w).2) := by
  unfold State.weigh
  by_cases scored : (s.channelState o).isScored = true
  · rw [if_pos scored, if_pos (show ((withReceiver ch r s).channelState o).isScored = true from scored)]
    simp only [State.modStanding_store, withReceiver_store, withReceiver_standing]
    cases s.store.installed with
    | none => rfl
    | some cfg =>
      dsimp only
      cases scoreEffect cfg.record (s.standing.get o).score (weighted (s.standing.get o).score w) <;> rfl
  · rw [if_neg scored, if_neg (show ¬ ((withReceiver ch r s).channelState o).isScored = true from scored)]

theorem weighAndExclude_withReceiver (o : Channel) (w : Int) :
    (withReceiver ch r s).weighAndExclude o w = withReceiver ch r (s.weighAndExclude o w) := by
  simp only [State.weighAndExclude, weigh_withReceiver]
  split
  · rw [excludeChannel_withReceiver, settleMembership_withReceiver]
  · rfl

theorem linkLoss_withReceiver (o : Channel) :
    (withReceiver ch r s).linkLoss o = withReceiver ch r (s.linkLoss o) := by
  have state : (withReceiver ch r s).channelState o = s.channelState o := rfl
  have detached : ∀ f, (withReceiver ch r s).modMember o f = withReceiver ch r (s.modMember o f) := fun _ => rfl
  have empty : ∀ t, (withReceiver ch r t).isEmpty = t.isEmpty := fun _ => rfl
  simp only [State.linkLoss, state, detached, empty]
  split
  case h_1 | h_2 | h_3 => rw [excludeChannel_withReceiver, settleMembership_withReceiver]
  case h_4 | h_5 | h_6 =>
    split
    · exact depart_withReceiver _ ch r o _
    · rfl
  case h_7 => rfl

theorem leaveUp_withReceiver (line : LineState) :
    (withReceiver ch r s).leaveUp ch line = withReceiver ch r (s.leaveUp ch line) := by
  have counted : (if ((withReceiver ch r s).ports.get ch).markSlot.isSome then (withReceiver ch r s).count ch .marksSkipped
      else withReceiver ch r s) =
      withReceiver ch r (if (s.ports.get ch).markSlot.isSome then s.count ch .marksSkipped else s) := by
    rw [withReceiver_port]
    split <;> rfl
  unfold State.leaveUp
  rw [counted]
  exact (congrArg (State.linkLoss · ch) (modPort_withReceiver _ ch r ch fun _ => rfl)).trans
    (linkLoss_withReceiver _ ch r ch)

/-- A bad frame is judged alike whatever the receiver is doing (R149, R151, R152). -/
theorem judgedBad_withReceiver : (withReceiver ch r s).judgedBad ch = withReceiver ch r (s.judgedBad ch) := by
  simp only [State.judgedBad, withReceiver_line]
  split
  · rfl
  · exact modPort_withReceiver (s.count ch .framesBad) ch r ch fun _ => rfl
  · have weighed : ((withReceiver ch r s).count ch .framesBad).weighAndExclude ch 2 =
        withReceiver ch r ((s.count ch .framesBad).weighAndExclude ch 2) :=
      weighAndExclude_withReceiver (s.count ch .framesBad) ch r ch 2
    simp only [State.badInUp, weighed, withReceiver_port]
    split
    · exact modPort_withReceiver _ ch r ch fun _ => rfl
    · exact leaveUp_withReceiver _ ch r .hunt

theorem takeNotice_withReceiver (p : Port) (n : Notice) :
    Port.takeNotice { p with receiver := r } n = { p.takeNotice n with receiver := r } := by
  simp only [Port.takeNotice]
  split <;> rfl

theorem deliverNotices_withReceiver (o : Channel) :
    (withReceiver ch r s).deliverNotices o = withReceiver ch r (s.deliverNotices o) := by
  have up : (withReceiver ch r s).isUp o = s.isUp o := by
    by_cases ho : o = ch
    · rw [ho, State.isUp, withReceiver_line, State.isUp]
    · rw [State.isUp, withReceiver, State.modPort_ports, PerChannel.get_set_other _ ho, State.isUp]
  simp only [State.deliverNotices, up]
  split
  · have told := modPort_withReceiver s ch r o (f := fun p => (noticesInOrder s.outbox o s.freeCount).foldl Port.takeNotice p)
      fun p => List.foldl_hom (fun p : Port => { p with receiver := r }) (takeNotice_withReceiver r)
    exact congrArg (fun t : State => { t with freeCount := s.freeCount + 4 * s.outbox.length }) told
  · rfl

theorem settleNotices_withReceiver : (withReceiver ch r s).settleNotices = withReceiver ch r s.settleNotices := by
  have delivered : Channel.all.foldl State.deliverNotices (withReceiver ch r s) =
      withReceiver ch r (Channel.all.foldl State.deliverNotices s) :=
    List.foldl_hom (withReceiver ch r) fun s o => deliverNotices_withReceiver s ch r o
  rw [State.settleNotices, State.settleNotices, delivered]
  generalize Channel.all.foldl State.deliverNotices s = t
  rfl

end Unread

/-- An aborted frame is judged as any other bad frame, but for the receiver (R149). -/
theorem settled_abortFrame : (s.abortFrame ch).settleNotices =
    withReceiver ch .seeking ((s.reopenFrame ch).judgedBad ch).settleNotices := by
  have seeking : withReceiver ch .seeking s = withReceiver ch .seeking (s.reopenFrame ch) :=
    (withReceiver_withReceiver .seeking _).symm
  have aborted : s.abortFrame ch = (withReceiver ch .seeking (s.reopenFrame ch)).judgedBad ch :=
    congrArg (State.judgedBad · ch) seeking
  rw [aborted, judgedBad_withReceiver, settleNotices_withReceiver]

/-- A bad frame that comes whole leaves the receiver in the next frame, as its closing delimiter does (R149). -/
theorem settled_badFrame_receiver :
    (((s.reopenFrame ch).judgedBad ch).settleNotices.ports.get ch).receiver = .inFrame [] s.timer.tickCount := by
  have same : s.reopenFrame ch = withReceiver ch (.inFrame [] s.timer.tickCount) (s.reopenFrame ch) :=
    (withReceiver_withReceiver _ _).symm
  rw [same, judgedBad_withReceiver, settleNotices_withReceiver, withReceiver_receiver]

end Sys2Proof.Proofs.LineBytes

open Sys2Proof Sys2Proof.Machine Sys2Proof.Proofs.FrameBytes Sys2Proof.Proofs.LineBytes

/-- Settles O7: with RST_N low the receive side takes nothing (`receiving_of_low`), and a level sampled again is no edge. -/
theorem resetPinHoldsThePart : Obligations.ResetPinHoldsThePart := by
  unfold Obligations.ResetPinHoldsThePart
  intro s ch payload b good kind
  refine ⟨fun hpin => ?_, fun hpin => ?_⟩
  · simp only [exec, execResetRelease, hpin]
  · have ignored : s.receiving = false := receiving_of_low hpin
    have frame : ∀ hand, Host.Outcome.next (s.receiveGood ch hand) = (.next s : Host.Outcome State Fault Refusal) :=
      fun hand => congrArg _ (receiveGood_of_low hpin hand)
    simp only [List.forall_mem_cons, List.not_mem_nil, false_implies, implies_true, and_true]
    refine ⟨?warmReset, congrArg _ (receiveByte_of_low hpin b), congrArg _ (quietLine_of_low hpin), ?huntFrame, ?badFrame,
      ?frameAbort, frame _, frame _, frame _, frame _, frame _, frame _, frame _, unknownKind_of_low hpin kind⟩
    case warmReset => simp only [exec, execWarmReset, hpin]
    case huntFrame => simp [exec, execHuntFrame, ignored]
    case badFrame => simp [exec, execBadFrame, ignored]
    case frameAbort => simp [exec, execFrameAbort, ignored]

/-- Settles O19: a byte on a DOWN line wakes it (`receiveByte_of_down`). -/
theorem firstByteTakesDownLineToHunt : Obligations.FirstByteTakesDownLineToHunt := by
  unfold Obligations.FirstByteTakesDownLineToHunt
  intro s ch b hpin hline
  refine congrArg Host.Outcome.next ((receiveByte_of_down hpin hline b).trans ?_)
  simp only [State.wakeLine, State.modPort, isDelimiter_iff]

/-- Settles O24: nothing that a bad frame does reads the receiver (`settled_abortFrame`), and the 300th byte aborts
(`collect_aborts`). -/
theorem abortedFrameIsJudgedBad : Obligations.AbortedFrameIsJudgedBad := by
  unfold Obligations.AbortedFrameIsJudgedBad
  intro s ch hpin hline
  refine ⟨⟨_, _, frameAbort_of_active hpin hline, badFrame_of_active hpin hline, settled_badFrame_receiver,
    settled_abortFrame⟩, fun b body start hb h hlen => ?_⟩
  have plain : ¬ isDelimiter b = true := fun hd => by
    obtain ⟨data, whole⟩ := isDelimiter_iff.mp hd
    exact hb.elim (fun h => h data) fun h => Bool.false_ne_true (whole.symm.trans h)
  rw [lineActivity_of_active hpin hline, frameAbort_of_active hpin hline, collect_aborts h plain hlen]

/-- Settles O28: each byte by the phase of the receiver (`collect_seeking`, `collect_joins`, `collect_delimiter`); a frame
judged good is the command of its kind (`goodFrame_eq`), byte by byte as well (`runAll_frame`). -/
theorem bytesMakeTheFrame : Obligations.BytesMakeTheFrame := by
  unfold Obligations.BytesMakeTheFrame
  intro s ch b hpin hline hout
  have unnoticed : ∀ r, (withReceiver ch r s).settleNotices = withReceiver ch r s :=
    fun r => State.settleNotices_of_empty (withReceiver ch r s) hout
  simp only [lineActivity_of_active hpin hline b, goodFrame_eq hpin hline hout, ← isDelimiter_iff]
  refine ⟨fun h => ⟨fun hd => ?_, fun hd => ?_⟩,
    fun body start h => ⟨fun hd hlen => ?_, fun hd hfill => ?_, fun hd hbody => ⟨fun bad => ?_, fun kind payload good => ?_⟩,
      fun hempty kind payload hdel time => runAll_frame hpin hline hout (hempty ▸ h) hdel time⟩⟩
  · rw [collect_seeking h, if_pos hd, reopenFrame_eq, unnoticed]
    rfl
  · rw [collect_seeking h, if_neg hd, State.settleNotices_of_empty _ hout]
  · rw [collect_joins h hd hlen, unnoticed]
    rfl
  · rw [collect_delimiter h hd, if_pos hfill, reopenFrame_eq, unnoticed]
    rfl
  · rw [collect_delimiter h hd, if_neg hbody, endFrame_of_bad bad, badFrame_of_active hpin hline]
  · rw [collect_delimiter h hd, if_neg hbody, endFrame_of_good good, receiveGood_of_active hpin hline]

end

section
/-! Lemmas about a good frame of a kind that the part does not take, and about the choice of a port's transmitter (R153,
R155, R157, R158). -/

namespace Sys2Proof.Proofs.UnknownKind

open Sys2Proof.Machine Sys2Proof.Proofs.EventNotices Sys2Proof.Proofs.ChangeRequest

variable {s : State} {ch : Channel}

/-! ## A notice joins a queue (R157) -/

theorem takeNotice_of_room {p : Port} (h : p.notices.length ≤ 7) (n : Notice) :
    p.takeNotice n = { p with notices := p.notices ++ [n] } := if_pos (Nat.lt_succ_of_le h)

theorem takeNotice_of_full {p : Port} (h : 8 ≤ p.notices.length) (n : Notice) :
    p.takeNotice n = { p with lostNotices := min (p.lostNotices + 1) 255 } := if_neg (Nat.not_lt.mpr h)

/-! ## The answer to an unknown kind (R153) -/

theorem exec_unknownKind {kind : Byte} (hpin : s.resetPin = .high) (hup : (s.ports.get ch).line = .up)
    (hk : kind ∉ takenKinds) :
    exec (.unknownKind ch kind) s = .next ((heard s ch).takeUnknown ch kind).settleNotices := by
  have unknown : takenKinds.contains kind = false := by simpa using hk
  simp only [exec, execUnknownKind, unknown, receiveGood_of_up hpin hup]
  rfl

theorem takeUnknown_outbox (hout : s.outbox = []) (kind : Byte) :
    ((heard s ch).takeUnknown ch kind).outbox = [⟨0, some ch, .refused kind .unknownKind⟩] :=
  congrArg (· ++ _) hout

theorem takeUnknown_ports (kind : Byte) : ((heard s ch).takeUnknown ch kind).ports = (heard s ch).ports := rfl

theorem takeUnknown_standing (kind : Byte) : ((heard s ch).takeUnknown ch kind).standing =
    s.standing.set ch { s.standing.get ch with
      counters := ((s.standing.get ch).counters.bump .framesGood).bump .unknownKind } := by
  simp [State.takeUnknown, heard]

theorem takeUnknown_keeps (kind : Byte) : s.keepsAllBut ((heard s ch).takeUnknown ch kind) [.standing, .ports, .outbox] :=
  ((heard_keeps s ch).mono (by decide)).trans <|
    ((State.count_keeps _ ch .unknownKind).mono (by decide)).trans ((State.refuse_keeps _ ch kind _).mono (by decide))

end Sys2Proof.Proofs.UnknownKind

namespace Sys2Proof.Proofs.TransmitChoice

open Sys2Proof.Machine

variable {s : State} {ch : Channel} {p : Port}

/-! ## When the transmitter chooses (R155) -/

theorem transmissionEnd_of_frame {f : PortFrame} (h : (s.ports.get ch).transmitter = .frame f) :
    exec (.transmissionEnd ch) s = .next (s.modPort ch Port.choose) := by
  simp only [exec, execTransmissionEnd, h, Transmitter.isSending, if_true]

theorem transmissionEnd_of_no_frame (h : ∀ f, (s.ports.get ch).transmitter ≠ .frame f) :
    exec (.transmissionEnd ch) s = .next s := by
  have idle : (s.ports.get ch).transmitter.isSending = false := by
    cases hx : (s.ports.get ch).transmitter with
    | frame f => exact absurd hx (h f)
    | silent | fill | abandoned => rfl
  simp only [exec, execTransmissionEnd, idle, Bool.false_eq_true, if_false]

theorem transmitChoice_of_free (h : (s.ports.get ch).isFree = true) :
    exec (.transmitChoice ch) s = .next (s.modPort ch Port.choose) := if_pos h

theorem transmitChoice_of_busy (h : ¬ (s.ports.get ch).isFree = true) :
    exec (.transmitChoice ch) s = .next s := if_neg h

/-! ## What it chooses (R155, R157, R158) -/

theorem choose_mark {f : MarkFrame} (h : p.markSlot = some f) :
    p.choose = { p with markSlot := none, transmitter := .frame (.mark f) } := by
  simp only [Port.choose, h]

theorem choose_notice (hm : p.markSlot = none) {n : Notice} {rest : List Notice} (hn : p.notices = n :: rest) :
    p.choose = { p.noticeTaken rest with transmitter := .frame (.notice n) } := by
  simp only [Port.choose, hm, hn]

theorem choose_verdict (hm : p.markSlot = none) (hn : p.notices = []) {v : Verdict} {rest : List Verdict}
    (hv : p.verdicts = v :: rest) : p.choose = { p with verdicts := rest, transmitter := .frame (.verdict v) } := by
  simp only [Port.choose, hm, hn, hv]

theorem choose_reply (hm : p.markSlot = none) (hn : p.notices = []) (hv : p.verdicts = []) {r : Reply}
    (hr : p.replySlot = some r) : p.choose = { p with replySlot := none, transmitter := .frame (.reply r) } := by
  simp only [Port.choose, hm, hn, hv, hr]

theorem choose_fill (hm : p.markSlot = none) (hn : p.notices = []) (hv : p.verdicts = []) (hr : p.replySlot = none) :
    p.choose = { p with transmitter := .fill } := by
  simp only [Port.choose, hm, hn, hv, hr]

/-- The last notice taken leaves LOST in the queue where notices were lost, and no lost count (R157). -/
theorem noticeTaken_eq (p : Port) (rest : List Notice) : p.noticeTaken rest = { p with
    notices := if rest = [] ∧ 0 < p.lostNotices then [.lost p.lostNotices] else rest
    lostNotices := if rest = [] then 0 else p.lostNotices } := by
  unfold Port.noticeTaken
  by_cases hlost : 0 < p.lostNotices
  · by_cases hrest : rest = [] <;> simp [hrest, hlost]
  · have none_lost : p.lostNotices = 0 := Nat.eq_zero_of_not_pos hlost
    have count : (if rest = [] then 0 else p.lostNotices) = p.lostNotices := by rw [none_lost, ite_self]
    rw [if_neg fun h => hlost h.2, if_neg fun h => hlost h.2, count]

end Sys2Proof.Proofs.TransmitChoice

open Sys2Proof Sys2Proof.Machine Sys2Proof.Proofs Sys2Proof.Proofs.EventNotices Sys2Proof.Proofs.ChangeRequest
  Sys2Proof.Proofs.UnknownKind Sys2Proof.Proofs.TransmitChoice

/-- Settles O25: the event offers REFUSED alone (`takeUnknown_outbox`), to the port that heard the frame. -/
theorem unknownKindIsCountedAndAnswered : Obligations.UnknownKindIsCountedAndAnswered := by
  unfold Obligations.UnknownKindIsCountedAndAnswered
  refine ⟨fun p n => ⟨fun h => takeNotice_of_room h n, fun h => takeNotice_of_full h n⟩,
    fun s ch kind hpin hup hout hk => ?_⟩
  refine ⟨_, exec_unknownKind hpin hup hk, ?_, PerChannel.eq_of_get fun o => ?_,
    keeps_settleNotices (takeUnknown_keeps kind) hout (by decide) (by decide)⟩
  · rw [settleNotices_standing, takeUnknown_standing]
    rfl
  · rw [settleNotices_port_of_send _ (takeUnknown_outbox hout kind), takeUnknown_ports, heard_port, PerChannel.get_set]
    by_cases ho : o = ch
    · subst ho
      have up : (s.heardPort o o).line = .up := (heardPort_line s o o).trans hup
      rw [if_pos rfl, if_pos rfl, Port.offered, if_pos up]
    · rw [if_neg ho, if_neg ho, State.heardPort, if_neg ho]

/-- Settles O47: the transmitter chooses at the end of its frame or when it is free, and `Port.choose` takes the first of the
mark slot, the notices, the VERDICTs and the reply slot that holds a frame. -/
theorem transmitterTakesByPriority : Obligations.TransmitterTakesByPriority := by
  unfold Obligations.TransmitterTakesByPriority
  intro s ch c
  refine ⟨fun event => ⟨(s.ports.get ch).choose, ?_, fun f hm => choose_mark hm, fun hm n rest hn => ?_, fun hm hn =>
    ⟨fun v rest hv => choose_verdict hm hn hv, fun hv =>
      ⟨fun r hr => choose_reply hm hn hv hr, fun hr => choose_fill hm hn hv hr⟩⟩⟩,
    transmissionEnd_of_no_frame, fun busy => transmitChoice_of_busy fun free => ?_⟩
  · obtain ⟨rfl, f, sending⟩ | ⟨rfl, free⟩ := event
    · exact transmissionEnd_of_frame sending
    · exact transmitChoice_of_free ((OwnEvents.isFree_iff _).mpr free)
  · rw [choose_notice hm hn, noticeTaken_eq]
  · obtain silent | ⟨f, sending⟩ := busy
    · rw [OwnEvents.isFree_iff, silent] at free
      exact absurd free (by decide)
    · rw [OwnEvents.isFree_iff, sending] at free
      exact free.elim (fun h => Transmitter.noConfusion h) fun h => Transmitter.noConfusion h

end

section
/-! Lemmas about a READ: its fields, its table of checks, and the REPLY that answers it (R109, R110, R161, R162). -/

namespace Sys2Proof.Proofs.ReadRequest

open Sys2Proof.Machine Sys2Proof.Proofs.EventNotices Sys2Proof.Proofs.ChangeRequest

variable {s : State} {ch : Channel} {p : List Byte} (f : ReadFields)

/-! ## The fields of a READ (R161, R173) -/

theorem viewOfCode_eq_some {b : Byte} {view : View} : viewOfCode b = some view ↔ b = viewCode view := by
  revert b
  cases view <;> decide

/-- A code from 1 to 6 is that of a view (R173). -/
theorem viewOfCode_eq_none {b : Byte} (h : viewOfCode b = none) : ¬ (1 ≤ b.toNat ∧ b.toNat ≤ 6) := by
  revert b
  decide

theorem channelOfCode_isSome (b : Byte) : (channelOfCode b).isSome = decide (b.toNat ≤ 3) := by
  revert b
  decide

/-- The options byte, 1 with CLEAR and 0 without. -/
def optionsByte (clear : Bool) : Byte := if clear then 1 else 0

theorem optionsByte_defined (clear : Bool) : optionsByte clear = 0 ∨ optionsByte clear = 1 := by
  cases clear <;> decide

theorem optionsByte_beq_one (clear : Bool) : (optionsByte clear == 1) = clear := by
  cases clear <;> rfl

theorem optionsByte_eq_one {clear : Bool} : optionsByte clear = 1 ↔ clear = true := by
  cases clear <;> decide

/-- The three bytes of a READ. -/
def readBytes (f : ReadFields) : List Byte := [viewCode f.view, f.argument, optionsByte f.clear]

theorem decodeRead_readBytes : decodeRead (readBytes f) = some f := by
  have view : viewOfCode (viewCode f.view) = some f.view := viewOfCode_eq_some.mpr rfl
  simp only [decodeRead, readBytes, if_pos (optionsByte_defined f.clear), view, Option.map_some, optionsByte_beq_one]

/-- A payload either is the bytes of the fields that it decodes to, or it is met by check 1 (R161). -/
theorem decodeRead_cases (s : State) (ch : Channel) (p : List Byte) :
    (decodeRead p = none ∧ firstMet (s.readTable ch p) = some .badField) ∨ ∃ f, p = readBytes f := by
  have check (h : p.length ≠ 3 ∨ ¬ (p.getD 2 0 = 0 ∨ p.getD 2 0 = 1)
      ∨ ¬ (1 ≤ (p.getD 0 0).toNat ∧ (p.getD 0 0).toNat ≤ 6)) : firstMet (s.readTable ch p) = some .badField := by
    rw [State.readTable, firstMet_cons, if_pos]
    simpa only [Bool.or_eq_true, bne_iff_ne, Bool.not_eq_true', ← Bool.not_eq_true, beq_iff_eq, Bool.and_eq_true,
      decide_eq_true_eq, or_assoc] using h
  match p with
  | [] | [_] | [_, _] | _ :: _ :: _ :: _ :: _ => exact .inl ⟨rfl, check (.inl (by simp))⟩
  | [view, argument, options] =>
    by_cases ho : options = 0 ∨ options = 1
    · cases hv : viewOfCode view with
      | none => exact .inl ⟨by simp [decodeRead, hv], check (.inr (.inr (viewOfCode_eq_none hv)))⟩
      | some v =>
        obtain rfl := viewOfCode_eq_some.mp hv
        obtain rfl | rfl := ho
        · exact .inr ⟨⟨v, argument, false⟩, rfl⟩
        · exact .inr ⟨⟨v, argument, true⟩, rfl⟩
    · exact .inl ⟨by simp only [decodeRead, if_neg ho], check (.inr (.inl ho))⟩

/-! ## The table of READ (R161) -/

/-- Checks 2 to 4 of R161, over the fields of a READ. -/
def readChecks (s : State) (ch : Channel) (f : ReadFields) : List (Bool × RefusalReason) :=
  [ (!f.inRange, .badField),
    (f.clear && !(f.view == .channel && channelOfCode f.argument == some ch), .badField),
    ((s.ports.get ch).replySlot.isSome, .busy) ]

theorem readRefusal_eq (s : State) (ch : Channel) : s.readRefusal ch f = firstMet (readChecks s ch f) := by
  simp only [readChecks, firstMet_cons, firstMet_nil, State.readRefusal]

/-- Check 2 of R161, on the codes. -/
theorem inRange_eq : (!f.inRange) = ((viewCode f.view == 3 && !(decide (f.argument.toNat ≤ 3)))
    || (viewCode f.view == 4 && !(decide (f.argument.toNat ≤ 15)))
    || ((viewCode f.view == 2 || viewCode f.view == 6) && !(decide (f.argument.toNat ≤ 31)))) := by
  cases h : f.view <;> simp [ReadFields.inRange, h, viewCode, channelOfCode_isSome]

/-- Check 3 of R161, on the codes. -/
theorem ownChannel_eq (ch : Channel) : (f.view == .channel && channelOfCode f.argument == some ch) =
    (viewCode f.view == 3 && f.argument == channelCode ch) := by
  have view : (f.view == .channel) = (viewCode f.view == 3) := by cases f.view <;> rfl
  have letter : (channelOfCode f.argument == some ch) = (f.argument == channelCode ch) := by
    rw [Bool.eq_iff_iff, beq_iff_eq, beq_iff_eq, channelOfCode_eq_some]
  rw [view, letter]

theorem readTable_eq (s : State) (ch : Channel) :
    s.readTable ch (readBytes f) = (false, .badField) :: readChecks s ch f := by
  have view : 1 ≤ (viewCode f.view).toNat ∧ (viewCode f.view).toNat ≤ 6 := by cases f.view <;> decide
  have options : (optionsByte f.clear == 0 || optionsByte f.clear == 1) = true := by cases f.clear <;> rfl
  have clear : f.clear = (optionsByte f.clear == 1) := (optionsByte_beq_one f.clear).symm
  rw [readChecks, inRange_eq, ownChannel_eq, clear]
  simp only [State.readTable, readBytes, List.getD_cons_zero, List.getD_cons_succ, options, view]
  rfl

/-- What the Read Unit does with a READ: refused with the reason of the first check met, or answered when none is met. -/
theorem takeRead_cases (s : State) (ch : Channel) (p : List Byte) :
    (∃ r, firstMet (s.readTable ch p) = some r ∧ s.takeRead ch p = s.refuse ch readKind r)
      ∨ ∃ f, p = readBytes f ∧ firstMet (s.readTable ch p) = none ∧ s.takeRead ch p = s.answerRead ch f := by
  obtain ⟨undecoded, met⟩ | ⟨f, rfl⟩ := decodeRead_cases s ch p
  · exact .inl ⟨_, met, by simp only [State.takeRead, undecoded]⟩
  · have table : firstMet (s.readTable ch (readBytes f)) = s.readRefusal ch f := by
      rw [readTable_eq, firstMet_cons, if_neg Bool.false_ne_true, readRefusal_eq]
    rw [table]
    cases refusal : s.readRefusal ch f with
    | some r => exact .inl ⟨r, rfl, by simp only [State.takeRead, decodeRead_readBytes, refusal]⟩
    | none => exact .inr ⟨f, rfl, rfl, by simp only [State.takeRead, decodeRead_readBytes, refusal]⟩

/-! ## The REPLY (R109, R162) -/

/-- The REPLY that answers a READ, with the snapshot of the part as it is then. -/
def replyTo (s : State) (f : ReadFields) : Reply := ⟨f.view, f.argument, s.store.currentEpoch, s.snapshot f⟩

theorem answerRead_eq : s.answerRead ch f =
    if f.clear then (s.modPort ch fun p => { p with replySlot := some (replyTo s f) }).clearCounters ch
    else s.modPort ch fun p => { p with replySlot := some (replyTo s f) } := rfl

theorem answerRead_port (o : Channel) : (s.answerRead ch f).ports.get o =
    if o = ch then { s.ports.get o with replySlot := some (replyTo s f) } else s.ports.get o := by
  have placed : (s.answerRead ch f).ports = s.ports.set ch { s.ports.get ch with replySlot := some (replyTo s f) } := by
    rw [answerRead_eq]
    split <;> rfl
  rw [placed, PerChannel.get_set]
  split
  · next h => rw [h]
  · rfl

theorem answerRead_standing (o : Channel) : (s.answerRead ch f).standing.get o =
    if o = ch ∧ f.clear = true then { s.standing.get o with counters := Counters.zero } else s.standing.get o := by
  rw [answerRead_eq]
  by_cases clear : f.clear = true
  · by_cases ho : o = ch <;> simp [clear, ho, PerChannel.get_set]
  · simp [clear]

theorem answerRead_keeps : s.keepsAllBut (s.answerRead ch f) [.standing, .ports] := by
  have placed : s.keepsAllBut (s.modPort ch fun p => { p with replySlot := some (replyTo s f) }) [.standing, .ports] :=
    (s.modPort_keeps ch _).mono (by decide)
  rw [answerRead_eq]
  split
  · exact placed.trans ((State.modStanding_keeps _ ch _).mono (by decide))
  · exact placed

/-! ## A READ heard in UP that is answered -/

/-- The part as the snapshot of a READ from channel `ch` shows it: the frame is counted. -/
def shown (s : State) (ch : Channel) : State := { s with standing := s.standing.set ch (s.heardStanding ch ch) }

/-- No view shows the ports (R163 to R167, R170). -/
theorem snapshot_heard : (heard s ch).snapshot f = (shown s ch).snapshot f := by
  have counted : (heard s ch).standing = (shown s ch).standing := by
    refine PerChannel.eq_of_get fun o => (heard_standing s ch o).trans ?_
    by_cases ho : o = ch <;> simp [shown, State.heardStanding, PerChannel.get_set, ho]
  have same : heard s ch = { s with standing := (shown s ch).standing, ports := (heard s ch).ports } := by
    rw [← counted]
    rfl
  rw [same]
  rfl

/-- The reply slot is as it was when the frame was heard (R161). -/
theorem readTable_heard (p : List Byte) : (heard s ch).readTable ch p = s.readTable ch p := by
  have slot : ((heard s ch).ports.get ch).replySlot = (s.ports.get ch).replySlot := by
    rw [heard_port, State.heardPort, if_pos rfl]
  rw [State.readTable, slot, State.readTable]

theorem settleNotices_answered (hout : s.outbox = []) :
    ((heard s ch).answerRead ch f).settleNotices = (heard s ch).answerRead ch f :=
  State.settleNotices_of_empty _ <|
    Eq.trans (((heard_keeps s ch).trans (answerRead_keeps f)) .outbox (by decide)) hout

end Sys2Proof.Proofs.ReadRequest

open Sys2Proof Sys2Proof.Machine Sys2Proof.Proofs.EventNotices Sys2Proof.Proofs.ChangeRequest
  Sys2Proof.Proofs.ReadRequest

/-- Settles O45: `takeRead_cases` reads the table of R161, and either the request is refused alone in its event or it is
answered (`answerRead_port`, `answerRead_standing`). -/
theorem readFollowsItsTable : Obligations.ReadFollowsItsTable := by
  unfold Obligations.ReadFollowsItsTable
  intro s ch p hpin hout hup
  refine ⟨_, congrArg Host.Outcome.next (receiveGood_of_up hpin hup _), ?_⟩
  obtain ⟨r, met, taken⟩ | ⟨f, rfl, met, taken⟩ := takeRead_cases (heard s ch) ch p
  · rw [readTable_heard] at met
    rw [taken, met]
    exact refusedOnly_of_refuse hout hup _ r
  · rw [readTable_heard] at met
    rw [taken, met, settleNotices_answered f hout]
    have clear : ((readBytes f).getD 2 0 == 1) = f.clear := optionsByte_beq_one f.clear
    refine ⟨f.view, rfl, fun x => ?_, fun x => ?_, ((heard_keeps s ch).trans (answerRead_keeps f)).mono (by decide)⟩
    · rw [answerRead_port, heard_port, replyTo, snapshot_heard, clear]
      by_cases hx : x = ch
      · rw [if_pos hx, if_pos hx]
        rfl
      · rw [if_neg hx, if_neg hx, State.heardPort, if_neg hx]
    · have cleared : f.clear = true ↔ (readBytes f).getD 2 0 = 1 := optionsByte_eq_one.symm
      rw [answerRead_standing, heard_standing]
      simp only [cleared]
      by_cases hx : x = ch
      · rw [hx, State.heardStanding, if_pos rfl]
      · rw [if_neg fun h => hx h.1, if_neg fun h => hx h.1]

end

section
/-! Lemmas about what the six views show (R163 to R167, R170). -/

namespace Sys2Proof.Proofs.ViewContents

open Sys2Proof.Machine Sys2Proof.Proofs.ChangeRequest

/-! ## The installed and the current configuration (R7, R163) -/

variable {st : Store}

theorem installed_of_empty (h : st.installed = none) :
    st.installedEpoch = 0 ∧ st.installedDigest = 0 ∧ st.installedSchema = [] := by
  simp [Store.installedEpoch, Store.installedDigest, Store.installedSchema, h]

theorem installed_of_configured {cfg : Configuration} (h : st.installed = some cfg) :
    st.installedEpoch = cfg.epoch ∧ st.installedDigest = cfg.digest ∧ st.installedSchema = cfg.schema := by
  simp [Store.installedEpoch, Store.installedDigest, Store.installedSchema, h]

theorem current_of_none_awaiting (h : st.awaiting = none) :
    st.currentEpoch = st.installedEpoch ∧ st.currentDigest = st.installedDigest := by
  simp [Store.currentEpoch, Store.currentDigest, Store.current, Store.installedEpoch, Store.installedDigest, h]

theorem current_of_awaiting {w : Awaiting} (h : st.awaiting = some w) :
    st.currentEpoch = w.config.epoch ∧ st.currentDigest = w.config.digest := by
  simp [Store.currentEpoch, Store.currentDigest, Store.current, h]

/-! ## A page of a list (R164, R165) -/

theorem numbered_getElem? {α : Type} (l : List α) (first i : Nat) :
    (numbered first l)[i]? = (l[i]?).map fun x => (first + i, x) := by
  induction l generalizing first i with
  | nil => rfl
  | cons x l ih =>
    cases i with
    | zero => rfl
    | succ i => rw [numbered, List.getElem?_cons_succ, List.getElem?_cons_succ, ih, Nat.add_right_comm, Nat.add_assoc]

theorem pageFrom_getElem? {α : Type} (l : List α) (first i : Nat) :
    (pageFrom first l)[i]? = if i < 16 then (l[first + i]?).map fun x => (first + i, x) else none := by
  rw [pageFrom, numbered_getElem?, List.getElem?_take, List.getElem?_drop]
  split <;> rfl

theorem pageFrom_nil {α : Type} (first : Nat) : pageFrom first ([] : List α) = [] := by
  rw [pageFrom, List.drop_nil, List.take_nil, numbered]

/-- A page of the first `n` places of a list. -/
theorem pageFrom_take_getElem? {α : Type} (l : List α) (n first i : Nat) : (pageFrom first (l.take n))[i]? =
    if i < 16 ∧ first + i < n then (l[first + i]?).map fun x => (first + i, x) else none := by
  rw [pageFrom_getElem?, List.getElem?_take, ite_and]
  split
  · split <;> rfl
  · rfl

/-! ## SCHEMA and ITEMS (R164, R165) -/

variable {s : State} (first : Nat)

theorem schemaView_of_empty (h : s.store.installed = none) : s.schemaView first = ⟨0, 0, []⟩ := by
  obtain ⟨epoch, -, schema⟩ := installed_of_empty h
  rw [State.schemaView, epoch, schema, pageFrom_nil]
  rfl

theorem schemaView_of_configured {cfg : Configuration} (h : s.store.installed = some cfg) :
    s.schemaView first = ⟨cfg.schema.length, cfg.epoch, pageFrom first cfg.schema⟩ := by
  obtain ⟨epoch, -, schema⟩ := installed_of_configured h
  rw [State.schemaView, epoch, schema]

theorem itemsView_of_empty (h : s.store.installed = none) :
    s.itemsView first = ⟨0, 0, s.store.schemaBoundary, []⟩ := by
  obtain ⟨epoch, -, schema⟩ := installed_of_empty h
  rw [State.itemsView, epoch, schema, List.length_nil, List.take_zero, pageFrom_nil]

theorem itemsView_of_configured {cfg : Configuration} (h : s.store.installed = some cfg) :
    s.itemsView first = ⟨cfg.schema.length, cfg.epoch, s.store.schemaBoundary,
      pageFrom first (s.store.items.take cfg.schema.length)⟩ := by
  obtain ⟨epoch, -, schema⟩ := installed_of_configured h
  rw [State.itemsView, epoch, schema]

/-! ## CHANNEL (R166) -/

theorem snapshot_channel (ch : Channel) (clear : Bool) : s.snapshot ⟨.channel, channelCode ch, clear⟩ =
    .channel ⟨s.members.get ch, s.standing.get ch⟩ := by
  have letter : channelOfCode (channelCode ch) = some ch := channelOfCode_eq_some.mpr rfl
  rw [State.snapshot, letter]
  rfl

/-! ## PENDING (R167) -/

variable {t : Timer} {e : ChangeEntry}

theorem pendingEntry_of_committed {a : Cycle} (h : e.state = .committed a) :
    (t.pendingEntry e).committed = true ∧ (t.pendingEntry e).time = .activates a := by
  simp [Timer.pendingEntry, ChangeEntry.isPending, h]

theorem pendingEntry_of_pending (h : e.state = .pending) : (t.pendingEntry e).committed = false := by
  simp [Timer.pendingEntry, ChangeEntry.isPending, h]

theorem pendingEntry_expires {c : Cycle} (h : e.state = .pending) (hx : e.expiry = some c) :
    (t.pendingEntry e).time = .expires c := by
  simp [Timer.pendingEntry, h, hx]

theorem pendingEntry_ticksLeft {x : FoundingExpiry} (h : e.state = .pending) (hx : e.expiry = none)
    (hf : t.foundingExpiries.find? (fun f => f.ticket == e.ticket) = some x) :
    (t.pendingEntry e).time = .ticksLeft (x.tick - t.tickCount) := by
  simp [Timer.pendingEntry, Timer.ticksLeft, h, hx, hf]

/-- The view's entries are those of the Change Table, in its order. -/
theorem pendingView_getElem? {i : Nat} {x : PendingEntry} (he : s.changes.entries[i]? = some e)
    (hx : s.pendingView.entries[i]? = some x) : x = s.timer.pendingEntry e := by
  rw [State.pendingView, List.getElem?_map, he] at hx
  exact (Option.some.inj hx).symm

end Sys2Proof.Proofs.ViewContents

open Sys2Proof Sys2Proof.Machine Sys2Proof.Proofs.ViewContents

/-- Settles O46: a field that a view copies is that of its block; the configuration shown depends on what is installed and
awaited, the entries of a page are numbered from its first place (`pageFrom_getElem?`), and a pending entry shows the time of
its state (`pendingView_getElem?`). -/
theorem snapshotShowsTheView : Obligations.SnapshotShowsTheView := by
  unfold Obligations.SnapshotShowsTheView
  intro s argument clear
  refine ⟨⟨s.groupView, rfl, rfl, rfl, PerChannel.get_build _, rfl, rfl, rfl, rfl, rfl, fun empty => ?groupEmpty,
      fun cfg configured => ?groupConfigured, fun settled => ?groupSettled, fun w waits => ?groupWaits⟩,
    fun ch letter => letter ▸ snapshot_channel ch clear, rfl,
    ⟨s.schemaView argument.toNat, rfl, schemaView_of_empty _, fun cfg configured => ?schema⟩,
    ⟨s.itemsView argument.toNat, rfl, rfl, fun empty => ?itemsEmpty, fun cfg configured => ?items⟩,
    ⟨s.pendingView, rfl, rfl, List.length_map _, fun i e x he hx => ?pending⟩⟩
  case groupEmpty =>
    obtain ⟨epoch, digest, -⟩ := installed_of_empty empty
    exact ⟨congrArg (Option.map _) empty, epoch, digest⟩
  case groupConfigured =>
    obtain ⟨epoch, digest, -⟩ := installed_of_configured configured
    exact ⟨congrArg (Option.map _) configured, epoch, digest⟩
  case groupSettled => exact ⟨congrArg (Option.map _) settled, current_of_none_awaiting settled⟩
  case groupWaits =>
    obtain ⟨epoch, digest⟩ := current_of_awaiting waits
    refine ⟨epoch, digest, (congrArg (Option.map _) waits).trans ?_⟩
    cases h : w.kind <;> rw [Option.map_some, h] <;> rfl
  case schema =>
    rw [schemaView_of_configured _ configured]
    exact ⟨rfl, rfl, pageFrom_getElem? _ _⟩
  case itemsEmpty =>
    rw [itemsView_of_empty _ empty]
    exact ⟨rfl, rfl, rfl⟩
  case items =>
    rw [itemsView_of_configured _ configured]
    exact ⟨rfl, rfl, pageFrom_take_getElem? _ _ _⟩
  case pending =>
    rw [pendingView_getElem? he hx]
    exact ⟨rfl, rfl, rfl, rfl, rfl, rfl, fun a => pendingEntry_of_committed,
      fun pending => ⟨pendingEntry_of_pending pending, fun c => pendingEntry_expires pending,
        fun unset f => pendingEntry_ticksLeft pending unset⟩⟩

end

section
/-! Lemmas about an event taken whole: no command touches the queue of waiting commands (log entry 6), and none that starts with
no notice on its way ends with one (log entry 3, R157). -/

namespace Sys2Proof.Proofs.WholeEvent

open Sys2Proof.Machine

variable {s t : State} {l : List Block}

/-! ## The relation of an event -/

/-- An event taken whole: the waiting commands are as they were, and no notice is left on its way to a queue (R157). -/
structure TakenWhole (s t : State) : Prop where
  pending : t.pending = s.pending
  outbox : s.outbox = [] → t.outbox = []

theorem TakenWhole.refl (s : State) : TakenWhole s s := ⟨rfl, id⟩

theorem TakenWhole.trans {u : State} (h : TakenWhole s t) (k : TakenWhole t u) : TakenWhole s u :=
  ⟨k.pending.trans h.pending, k.outbox ∘ h.outbox⟩

/-- What offers no notice needs none placed. -/
theorem TakenWhole.of_eq (pending : t.pending = s.pending) (outbox : t.outbox = s.outbox) : TakenWhole s t :=
  ⟨pending, outbox.trans⟩

theorem TakenWhole.of_keeps (h : s.keepsAllBut t l) (hl : ∀ b ∈ [Block.pending, .outbox], b ∉ l) : TakenWhole s t :=
  .of_eq (h .pending (hl _ (by decide))) (h .outbox (hl _ (by decide)))

theorem TakenWhole.foldl {α : Type} {f : State → α → State} (h : ∀ s x, TakenWhole s (f s x)) (xs : List α) (s : State) :
    TakenWhole s (xs.foldl f s) := by
  induction xs generalizing s with
  | nil => exact .refl s
  | cons x xs ih => exact (h s x).trans (ih _)

/-- Whatever notices an event offers, they are in the queues once they are placed. -/
theorem TakenWhole.settleNotices (h : t.pending = s.pending) : TakenWhole s t.settleNotices :=
  ⟨Eq.trans (t.settleNotices_keeps .pending (by decide)) h, fun _ => t.settleNotices_outbox⟩

/-! ## A close (R75, R76) -/

theorem closeRound_pending (s : State) (r : Round) (cause : CloseCause) : (s.closeRound r cause).pending = s.pending := by
  cases hf : s.store.inForce r.cycle with
  | some cfg =>
    rw [CloseWhole.closeRound_eq hf]
    generalize CloseWhole.resultOf s r cfg cause = res
    calc (CloseWhole.settledAt s r res).pending
      _ = (CloseWhole.movedAt s r res).pending := CloseWhole.settledAt_keeps s r res .pending (by decide)
      _ = (CloseWhole.producedAt s r res).pending := CloseWhole.movedAt_keeps s r res .pending (by decide)
      _ = s.pending := CloseWhole.producedAt_keeps s r res .pending (by decide)
  | none => rw [State.closeRound, hf, s.removeRound_keeps _ .pending (by decide)]

/-! ## The mark (R22, R24) -/

theorem capacityClose_pending (s : State) : s.capacityClose.pending = s.pending := by
  unfold State.capacityClose
  split
  · split
    · split <;> exact closeRound_pending _ _ _
    · rfl
  · rfl

theorem windowTakesMark_pending (s : State) (c : Cycle) (deadline : Tick) :
    (s.windowTakesMark c deadline).pending = s.pending := by
  unfold State.windowTakesMark
  split
  · rfl
  · exact Eq.trans (State.checkComplete_keeps _ _ .pending (by decide)) (capacityClose_pending s)

theorem activateKind_pending (s : State) (w : Awaiting) : (s.activateKind w).pending = s.pending := by
  unfold State.activateKind
  cases w.kind with
  | group => exact State.activateGroup_keeps _ _ .pending (by decide)
  | schema => exact State.recomputeGroup_keeps _ .pending (by decide)
  | pardon ch => rfl

theorem storeTakesMark_pending (s : State) (c : Cycle) : (s.storeTakesMark c).pending = s.pending := by
  have activated : ∀ w, (s.activate w).pending = s.pending := fun w => activateKind_pending (s.install w).dropCommitted w
  unfold State.storeTakesMark
  split
  · split
    · exact activated _
    · rfl
  · rfl

theorem react_pending (s : State) (o : MarkOffer) : (s.react o).pending = s.pending := by
  unfold State.react
  split
  · exact windowTakesMark_pending s _ _
  · exact s.portTakesMark_keeps _ _ .pending (by decide)
  · exact s.membersTakeMark_keeps .pending (by decide)
  · exact s.changesTakeMark_keeps _ .pending (by decide)
  · exact storeTakesMark_pending s _

/-- Each block takes its mark as an event of its own. -/
theorem takenWhole_takeMark (s : State) (b : MarkTaker) : TakenWhole s (s.takeMark b) := by
  unfold State.takeMark
  split
  · exact .settleNotices (react_pending _ _)
  · exact .refl s

theorem takenWhole_openCycle (s : State) : TakenWhole s s.openCycle := by
  unfold State.openCycle
  split
  · exact .refl s
  · split
    · exact .refl s
    · exact .trans (.of_keeps (s.reachTick_keeps _) (by decide)) (.of_eq rfl rfl)

/-! ## Expiries (R28, R72, R143) -/

theorem takenWhole_expireDeadline (s : State) (c : Cycle) : TakenWhole s (s.expireDeadline c) := by
  unfold State.expireDeadline
  split
  · exact .refl s
  · exact .trans (.of_keeps (s.reachTick_keeps _) (by decide)) (.of_eq rfl rfl)

theorem reachFoundingExpiry_pending (s : State) (ticket : Byte) : (s.reachFoundingExpiry ticket).pending = s.pending := by
  unfold State.reachFoundingExpiry
  split
  · rfl
  · next e _ =>
    have reached : ((s.reachTick e.tick).dropFoundingExpiry ticket).pending = s.pending :=
      s.reachTick_keeps e.tick .pending (by decide)
    unfold State.expireFounding
    split
    · exact Eq.trans (State.voidEntry_keeps _ _ _ _ .pending (by decide)) reached
    · exact reached

/-! ## The requests of a controller (R153) -/

theorem takeLeave_pending (s : State) (ch : Channel) : (s.takeLeave ch).pending = s.pending := by
  unfold State.takeLeave
  dsimp only
  split
  · rfl
  · split
    · split
      · exact Eq.trans (State.settleMembership_keeps _ _ .pending (by decide))
          (State.leaveVoters_keeps _ _ _ .pending (by decide))
      · rfl
    · rfl

theorem takeChange_pending (s : State) (ch : Channel) (p : List Byte) : (s.takeChange ch p).pending = s.pending := by
  unfold State.takeChange
  split
  · rfl
  · split
    · rfl
    · split
      · rfl
      · exact ChangeRequest.createEntry_keeps _ _ .pending (by decide)

theorem voidOthers_pending (s : State) (ticket : Byte) (reason : VoidReason) :
    (s.voidOthers ticket reason).pending = s.pending := by
  have kept : s.keepsAllBut (s.voidOthers ticket reason) [.timer, .changes, .part, .outbox] :=
    .foldl (fun u (e : ChangeEntry) => u.voidEntry_keeps 1 reason e.ticket) _ s
  exact kept .pending (by decide)

theorem commitChange_pending (s : State) (e : ChangeEntry) : (s.commitChange e).pending = s.pending := by
  unfold State.commitChange
  split
  · dsimp only
    split
    · exact voidOthers_pending _ _ _
    · rfl
  · rfl

/-- After the other entry is voided, each commit writes blocks of the part alone. -/
theorem commit_pending (s : State) (e : ChangeEntry) : (s.commit e).pending = s.pending := by
  unfold State.commit
  split
  · exact voidOthers_pending s e.ticket .superseded
  · exact voidOthers_pending s e.ticket .dissolved
  all_goals exact commitChange_pending s e

theorem takeConcur_pending (s : State) (ch : Channel) (p : List Byte) : (s.takeConcur ch p).pending = s.pending := by
  unfold State.takeConcur
  dsimp only
  split
  · rfl
  · split
    · rfl
    · split
      · rfl
      · split
        · rfl
        · unfold State.addConcurrence
          dsimp only
          split
          · exact commit_pending _ _
          · rfl

theorem takeRetract_pending (s : State) (ch : Channel) (p : List Byte) : (s.takeRetract ch p).pending = s.pending := by
  unfold State.takeRetract
  split
  · rfl
  · split
    · rfl
    · exact s.voidEntry_keeps _ _ _ .pending (by decide)

theorem handOver_pending (ch : Channel) (kind : Byte) (payload : List Byte) (s : State) :
    (State.handOver ch kind payload s).pending = s.pending := by
  unfold State.handOver
  split_ifs
  · exact s.takeAnnounce_keeps ch _ .pending (by decide)
  · exact takeLeave_pending s ch
  · exact s.takeProposal_keeps ch _ .pending (by decide)
  · exact takeChange_pending s ch _
  · exact takeConcur_pending s ch _
  · exact takeRetract_pending s ch _
  · exact s.takeRead_keeps ch _ .pending (by decide)
  · rfl

/-! ## The line (R147 to R152) -/

variable {ch : Channel}

theorem judgedGood_pending (s : State) {hand : State → State} (hhand : ∀ u, (hand u).pending = u.pending) :
    (s.judgedGood ch hand).pending = s.pending := by
  unfold State.judgedGood
  split
  · rfl
  · exact s.goodInHunt_keeps ch .pending (by decide)
  · exact hhand _

theorem takenWhole_receiveGood (s : State) {hand : State → State} (hhand : ∀ u, (hand u).pending = u.pending) :
    TakenWhole s (s.receiveGood ch hand) := by
  unfold State.receiveGood
  split
  · exact .settleNotices (judgedGood_pending _ hhand)
  · exact .refl s

theorem abortFrame_pending (s : State) : (s.abortFrame ch).pending = s.pending :=
  State.judgedBad_keeps _ ch .pending (by decide)

theorem endFrame_pending (s : State) (body : List RxByte) (start : Tick) :
    (s.endFrame ch body start).pending = s.pending := by
  unfold State.endFrame
  dsimp only
  split
  · exact judgedGood_pending _ (handOver_pending ch _ _)
  · exact State.judgedBad_keeps _ ch .pending (by decide)

theorem collect_pending (s : State) (b : RxByte) : (s.collect ch b).pending = s.pending := by
  unfold State.collect
  split
  · split <;> rfl
  · split
    · split
      · rfl
      · exact endFrame_pending s _ _
    · split
      · exact abortFrame_pending s
      · rfl

theorem takenWhole_receiveByte (s : State) (b : RxByte) : TakenWhole s (s.receiveByte ch b) := by
  unfold State.receiveByte
  split
  · split
    · exact .of_eq rfl rfl
    all_goals exact .settleNotices (collect_pending s b)
  · exact .refl s

theorem takenWhole_quietLine (s : State) : TakenWhole s (s.quietLine ch) := by
  unfold State.quietLine
  split
  · dsimp only
    split
    · exact .settleNotices (State.leaveUp_keeps _ ch _ .pending (by decide))
    all_goals exact .of_eq rfl rfl
  · exact .refl s

/-! ## Every command -/

/-- An outcome that is a next state, the event having been taken whole. -/
def leadsOn (s : State) (o : Host.Outcome State Fault Refusal) : Prop := ∃ t, o = .next t ∧ TakenWhole s t

theorem leadsOn_next (h : TakenWhole s t) : leadsOn s (.next t) := ⟨t, rfl, h⟩

/-- An event that happens under a condition, and otherwise changes nothing. -/
theorem leadsOn_ite {c : Prop} [Decidable c] (h : TakenWhole s t) : leadsOn s (if c then .next t else .next s) := by
  split
  · exact leadsOn_next h
  · exact leadsOn_next (.refl s)

theorem leadsOn_exec (c : Instr) (s : State) : leadsOn s (exec c s) := by
  have unchanged : leadsOn s (.next s) := leadsOn_next (.refl s)
  cases c with
  | powerOn resetHigh => exact leadsOn_next ⟨rfl, fun _ => rfl⟩
  | warmReset =>
    change leadsOn s (execWarmReset s)
    unfold execWarmReset
    split
    · exact leadsOn_next (.of_eq rfl rfl)
    · exact unchanged
  | resetRelease =>
    change leadsOn s (execResetRelease s)
    unfold execResetRelease
    split
    · exact leadsOn_next (.of_eq rfl rfl)
    · exact unchanged
  | mark event =>
    cases event with
    | opens takers =>
      have opened : TakenWhole s s.takeOwed.openCycle := .trans (.foldl takenWhole_takeMark _ s) (takenWhole_openCycle _)
      exact leadsOn_next (opened.trans (.foldl takenWhole_takeMark takers _))
    | takes takers => exact leadsOn_next (.foldl takenWhole_takeMark takers s)
  | deadlineExpiry cycle => exact leadsOn_next (takenWhole_expireDeadline s cycle)
  | foundingExpiry ticket => exact leadsOn_next (.settleNotices (reachFoundingExpiry_pending s ticket))
  | lineActivity ch byte => exact leadsOn_next (takenWhole_receiveByte s byte)
  | lineQuiet ch => exact leadsOn_next (takenWhole_quietLine s)
  | huntFrame ch good =>
    cases good with
    | true =>
      have reopened : TakenWhole s (s.reopenFrame ch) := .of_eq rfl rfl
      exact leadsOn_ite (reopened.trans (.of_keeps (State.goodInHunt_keeps _ ch) (by decide)))
    | false => exact leadsOn_ite (.of_eq rfl rfl)
  | badFrame ch =>
    exact leadsOn_ite (.settleNotices (State.judgedBad_keeps (s.reopenFrame ch) ch .pending (by decide)))
  | frameAbort ch => exact leadsOn_ite (.settleNotices (abortFrame_pending s))
  | announce ch payload =>
    exact leadsOn_next (takenWhole_receiveGood s fun u => u.takeAnnounce_keeps ch payload .pending (by decide))
  | leave ch payload => exact leadsOn_next (takenWhole_receiveGood s fun u => takeLeave_pending u ch)
  | proposal ch payload =>
    exact leadsOn_next (takenWhole_receiveGood s fun u => u.takeProposal_keeps ch payload .pending (by decide))
  | change ch payload => exact leadsOn_next (takenWhole_receiveGood s fun u => takeChange_pending u ch payload)
  | concur ch payload => exact leadsOn_next (takenWhole_receiveGood s fun u => takeConcur_pending u ch payload)
  | retract ch payload => exact leadsOn_next (takenWhole_receiveGood s fun u => takeRetract_pending u ch payload)
  | read ch payload =>
    exact leadsOn_next (takenWhole_receiveGood s fun u => u.takeRead_keeps ch payload .pending (by decide))
  | unknownKind ch kind =>
    change leadsOn s (execUnknownKind ch kind s)
    unfold execUnknownKind
    split
    · exact unchanged
    · exact leadsOn_next (takenWhole_receiveGood s fun _ => rfl)
  | transmissionEnd ch => exact leadsOn_ite (.of_eq rfl rfl)
  | transmitChoice ch => exact leadsOn_ite (.of_eq rfl rfl)
  | outputTransmissionEnd =>
    change leadsOn s (execOutputTransmissionEnd s)
    unfold execOutputTransmissionEnd
    split
    · exact leadsOn_next (.of_eq rfl rfl)
    all_goals exact unchanged
  | close =>
    change leadsOn s (execClose s)
    unfold execClose
    split
    · exact leadsOn_next (.settleNotices (closeRound_pending s _ _))
    · exact unchanged

end Sys2Proof.Proofs.WholeEvent

open Sys2Proof Sys2Proof.Machine Sys2Proof.Proofs.WholeEvent

/-- Settles O3, command by command (`leadsOn_exec`): what offers notices ends by placing them, and the rest offers none. -/
theorem commandsLeaveTheQueue : Obligations.CommandsLeaveTheQueue := by
  unfold Obligations.CommandsLeaveTheQueue
  intro c s
  obtain ⟨t, next, pending, outbox⟩ := leadsOn_exec c s
  exact ⟨t, next, pending, outbox⟩

/-- Settles O1, by the branch of `step` with a command in front. -/
theorem stepRunsFrontCommand : Obligations.StepRunsFrontCommand := by
  unfold Obligations.StepRunsFrontCommand
  intro s c rest waiting
  simp only [step, waiting]

end

section
/-! Lemmas about the values that power-on and a warm reset give the blocks (R17, R18, R31, R111). -/

namespace Sys2Proof.Proofs.ResetValues

open Sys2Proof.Machine

/-- With every standing at its reset value, a channel's score and each of its eighteen counters are 0 (R111). -/
theorem standing_zero_of_reset {t : State} (h : t.standing = PerChannel.fill Standing.reset) (ch : Channel) :
    (t.standing.get ch).score = 0 ∧ ∀ n ∈ (t.standing.get ch).counters.toList, n = 0 := by
  rw [h, PerChannel.get_fill]
  exact ⟨rfl, by decide⟩

variable {st : Store}

theorem warmReset_of_empty (h : st.installed = none) : st.warmReset = { st with restartCause := .pin } := by
  simp [Store.warmReset, h]

theorem warmReset_of_configured (h : st.installed ≠ none) :
    st.warmReset = { st with
      retained := [], items := List.replicate 32 none, schemaBoundary := none, restartCause := .pin } := by
  simp [Store.warmReset, h]

/-- What a warm reset keeps of the store, EMPTY or configured (R18). -/
theorem warmReset_kept : st.warmReset.installed = st.installed ∧ st.warmReset.awaiting = st.awaiting
    ∧ st.warmReset.retainedNextCycle = st.retainedNextCycle ∧ st.warmReset.restartCause = .pin := by
  by_cases h : st.installed = none
  · rw [warmReset_of_empty h]
    exact ⟨rfl, rfl, rfl, rfl⟩
  · rw [warmReset_of_configured h]
    exact ⟨rfl, rfl, rfl, rfl⟩

theorem exec_warmReset {s : State} (h : s.resetPin = .high) : exec .warmReset s = .next s.resetStart := by
  simp only [exec, execWarmReset, h]

end Sys2Proof.Proofs.ResetValues

open Sys2Proof Sys2Proof.Machine Sys2Proof.Proofs.ResetValues

/-- Settles O58: power-on leaves every block at its reset value, so each condition speaks of one small block. -/
theorem resetStateIsSound : Obligations.ResetStateIsSound where
  bounded := by decide
  store := by decide
  group := by decide
  output := rfl
  links := by decide
  members := by decide
  scores := rfl
  rounds := rfl
  queues := by decide
  sealedRounds := rfl
  history := rfl
  changes := by decide
  outbox := rfl

/-- Settles O4, block by block: the blocks of `State.poweredOn` are those of `State.reset`, but for the level of RST_N, what
the transmitters send and the tick count. -/
theorem powerOnGivesPowerOnValues : Obligations.PowerOnGivesPowerOnValues := by
  unfold Obligations.PowerOnGivesPowerOnValues
  intro s high
  have links : (if (if high then Level.high else .low) = .high then OutputLink.fill else .silent)
      = if high then .fill else .silent := by cases high <;> rfl
  have transmitters : (if (if high then Level.high else .low) = .high then Transmitter.fill else .silent)
      = if high then .fill else .silent := by cases high <;> rfl
  refine ⟨_, rfl, rfl, rfl, rfl, rfl, rfl, fun ch => PerChannel.get_fill _ ch, rfl, fun ch => PerChannel.get_fill _ ch,
    rfl, rfl, standing_zero_of_reset rfl, rfl, rfl, ?_, rfl, fun ch => ?_, rfl⟩
  · rw [← links]
    rfl
  · rw [← transmitters]
    exact PerChannel.get_fill _ ch

/-- Settles O5: the store keeps what `warmReset_kept` names, and every other block of `State.resetStart` is at its reset
value, the output state and the group state turning on whether a configuration is installed. -/
theorem warmResetKeepsOnlyTheConfiguration : Obligations.WarmResetKeepsOnlyTheConfiguration := by
  unfold Obligations.WarmResetKeepsOnlyTheConfiguration
  intro s pin
  obtain ⟨installed, awaiting, nextCycle, cause⟩ := warmReset_kept (st := s.store)
  have empty {α : Type} (x y : α) : (if s.isEmpty = true then x else y) = if s.store.installed = none then x else y := by
    simp [State.isEmpty]
  refine ⟨s.resetStart, exec_warmReset pin, rfl, installed, awaiting, nextCycle, cause, fun h => ?_, warmReset_of_empty, rfl,
    fun ch => PerChannel.get_fill _ ch, empty _ _, fun ch => PerChannel.get_fill _ ch, rfl, rfl, standing_zero_of_reset rfl,
    rfl, rfl, ?_, rfl, fun ch => PerChannel.get_fill _ ch, rfl, rfl⟩
  · change s.store.warmReset.retained = [] ∧ s.store.warmReset.schemaBoundary = none ∧ s.store.warmReset.items = _
    rw [warmReset_of_configured h]
    exact ⟨rfl, rfl, rfl⟩
  · rw [← empty]
    rfl

end

section
/-! Lemmas about the configuration encoding: a record's 17 bytes and its tests (R1, R2, R174). -/

namespace Sys2Proof.Proofs.RecordEncoding

open Sys2Proof.Machine Sys2Proof.Proofs.ProposalTable

/-! ## Numbers in bytes (R173) -/

theorem byte_toNat {n : Nat} (h : n ≤ 255) : (BitVec.ofNat 8 n).toNat = n := by
  rw [BitVec.toNat_ofNat]
  omega

theorem pair_toNat {n : Nat} (h : n ≤ 65535) :
    256 * (BitVec.ofNat 8 (n / 256)).toNat + (BitVec.ofNat 8 n).toNat = n := by
  simp only [BitVec.toNat_ofNat]
  omega

theorem triple_toNat {n : Nat} (h : n ≤ 16777215) :
    65536 * (BitVec.ofNat 8 (n / 65536)).toNat + 256 * (BitVec.ofNat 8 (n / 256)).toNat + (BitVec.ofNat 8 n).toNat = n := by
  simp only [BitVec.toNat_ofNat]
  omega

theorem field_triple {p : List Byte} {i : Nat} (h : i + 3 ≤ p.length) : field p i 3 =
    65536 * (p.getD (i + 0) 0).toNat + 256 * (p.getD (i + 1) 0).toNat + (p.getD (i + 2) 0).toNat := by
  rw [field, fieldBytes_eq h]
  change ((0 * 256 + (p.getD (i + 0) 0).toNat) * 256 + (p.getD (i + 1) 0).toNat) * 256 + (p.getD (i + 2) 0).toNat = _
  omega

/-! ## The member set (R174) -/

theorem setOfCode_eq_some {b : Byte} {m : ChannelSet} : setOfCode b = some m ↔
    b.toNat < 16 ∧ m = ⟨b.getLsbD 0, b.getLsbD 1, b.getLsbD 2, b.getLsbD 3⟩ := by
  by_cases h : b.toNat < 16 <;> simp [setOfCode, h, eq_comm]

theorem setOfCode_setCode (m : ChannelSet) : setOfCode (setCode m) = some m := by
  have h : ∀ a b c d : Bool, setOfCode (setCode ⟨a, b, c, d⟩) = some ⟨a, b, c, d⟩ := by decide
  exact h m.a m.b m.c m.d

/-! ## The record (R1, R2, R174) -/

/-- A record is read from its bytes field by field, in the order of the table. -/
theorem decodeRecord_eq_some_iff (bytes : List Byte) (r : GroupRecord) :
    let set := bytes.getD 0 0
    let byteAt := fun i : Nat => (bytes.getD i 0).toNat
    decodeRecord bytes = some r ↔
      bytes.length = 17 ∧ set.toNat < 16
        ∧ r.members = ⟨set.getLsbD 0, set.getLsbD 1, set.getLsbD 2, set.getLsbD 3⟩
        ∧ r.itemQuorum = byteAt 1 ∧ r.changeQuorum = byteAt 2 ∧ r.period = 256 * byteAt 3 + byteAt 4
        ∧ r.deadlineOffset = 65536 * byteAt 5 + 256 * byteAt 6 + byteAt 7 ∧ r.changeWindow = 256 * byteAt 8 + byteAt 9
        ∧ r.warnLevel = byteAt 10 ∧ r.excludeLevel = byteAt 11 ∧ r.probationRounds = byteAt 12
        ∧ r.holdoffCycles = 256 * byteAt 13 + byteAt 14 ∧ r.safeAfter = byteAt 15 ∧ r.recoverAfter = byteAt 16 := by
  intro set byteAt
  by_cases len : bytes.length = 17
  · have byte {i : Nat} (h : i ≤ 16) : field bytes i 1 = byteAt i := field_byte (by omega)
    have pair {i : Nat} (h : i ≤ 15) : field bytes i 2 = 256 * byteAt i + byteAt (i + 1) := field_pair (by omega)
    have triple : field bytes 5 3 = 65536 * byteAt 5 + 256 * byteAt 6 + byteAt 7 := field_triple (by omega)
    rw [decodeRecord, if_pos len, Option.map_eq_some_iff]
    constructor
    · rintro ⟨m, hm, rfl⟩
      obtain ⟨low, rfl⟩ := setOfCode_eq_some.mp hm
      exact ⟨len, low, rfl, byte (by decide), byte (by decide), pair (by decide), triple, pair (by decide),
        byte (by decide), byte (by decide), byte (by decide), pair (by decide), byte (by decide), byte (by decide)⟩
    · rintro ⟨-, low, members, iq, cq, period, offset, window, warn, exclude, rounds, holdoff, safe, recover⟩
      refine ⟨r.members, setOfCode_eq_some.mpr ⟨low, members⟩, ?_⟩
      rw [byte (by decide), byte (by decide), pair (by decide), triple, pair (by decide), byte (by decide),
        byte (by decide), byte (by decide), pair (by decide), byte (by decide), byte (by decide), ← iq, ← cq, ← period,
        ← offset, ← window, ← warn, ← exclude, ← rounds, ← holdoff, ← safe, ← recover]
  · rw [decodeRecord, if_neg len]
    exact iff_of_false (fun h => nomatch h) fun ⟨h, _⟩ => len h

/-- The tests of a record as ranges (R1) and comparisons (R2); a member set holds at most the four channels. -/
theorem valid_iff (r : GroupRecord) :
    let n := (Channel.all.filter fun ch => r.members.get ch).length
    let isIn := fun x low high : Nat => low ≤ x ∧ x ≤ high
    r.valid = true ↔
      isIn n 2 4 ∧ isIn r.itemQuorum 2 4 ∧ isIn r.changeQuorum 2 4 ∧ isIn r.period 500 65535
        ∧ isIn r.deadlineOffset 100 196605 ∧ isIn r.changeWindow 4 1024 ∧ isIn r.warnLevel 1 254
        ∧ isIn r.excludeLevel 1 254 ∧ isIn r.probationRounds 1 255 ∧ isIn r.holdoffCycles 0 65535
        ∧ isIn r.safeAfter 1 255 ∧ isIn r.recoverAfter 1 255
        ∧ n < 2 * r.itemQuorum ∧ r.itemQuorum ≤ n ∧ n < 2 * r.changeQuorum ∧ r.changeQuorum ≤ n
        ∧ r.deadlineOffset ≤ 3 * r.period ∧ r.warnLevel < r.excludeLevel := by
  intro n isIn
  have atMost : n ≤ 4 := List.length_filter_le _ _
  simp only [GroupRecord.valid, ChannelSet.card_eq_length, Bool.and_eq_true, decide_eq_true_eq, isIn, Nat.zero_le, true_and]
  omega

end Sys2Proof.Proofs.RecordEncoding

open Sys2Proof Sys2Proof.Machine Sys2Proof.Proofs.RecordEncoding

/-- Settles O29: the last two parts are `decodeRecord_eq_some_iff` and `valid_iff`, and the first follows from them, each field
of a valid record being within the bytes it is sent in. -/
theorem recordDecodesFromItsEncoding : Obligations.RecordDecodesFromItsEncoding := by
  unfold Obligations.RecordDecodesFromItsEncoding
  refine ⟨fun r valid => ⟨rfl, ?_⟩, decodeRecord_eq_some_iff, valid_iff⟩
  obtain ⟨-, iq, cq, period, offset, window, warn, exclude, rounds, holdoff, safe, recover, -⟩ := (valid_iff r).mp valid
  obtain ⟨low, members⟩ := setOfCode_eq_some.mp (setOfCode_setCode r.members)
  exact (decodeRecord_eq_some_iff _ r).mpr ⟨rfl, low, members, (byte_toNat (by omega)).symm, (byte_toNat (by omega)).symm,
    (pair_toNat (by omega)).symm, (triple_toNat (by omega)).symm, (pair_toNat (by omega)).symm,
    (byte_toNat (by omega)).symm, (byte_toNat (by omega)).symm, (byte_toNat (by omega)).symm,
    (pair_toNat (by omega)).symm, (byte_toNat (by omega)).symm, (byte_toNat (by omega)).symm⟩

end

section
/-! Lemmas about the encoding of a schema, entry by entry (R3, R4, R174). -/

namespace Sys2Proof.Proofs.SchemaEncoding

open Sys2Proof.Machine Sys2Proof.Proofs.ProposalTable Sys2Proof.Proofs.RecordEncoding

/-! ## Codes and numbers (R173) -/

theorem matchModeOfCode_eq_some {b : Byte} {m : MatchMode} : matchModeOfCode b = some m ↔ b = matchModeCode m := by
  revert b
  cases m <;> decide

theorem signednessOfCode_eq_some {b : Byte} {m : Signedness} : signednessOfCode b = some m ↔ b = signednessCode m := by
  revert b
  cases m <;> decide

theorem fallbackOfCode_eq_some {b : Byte} {m : Fallback} : fallbackOfCode b = some m ↔ b = fallbackCode m := by
  revert b
  cases m <;> decide

/-- The number that two bytes give is the one that they are sent for. -/
theorem eq_pair_iff {n : Nat} {x y : Byte} : n = 256 * x.toNat + y.toNat ↔ n ≤ 65535 ∧ [x, y] = be16 n := by
  have hx := x.isLt
  have hy := y.isLt
  constructor
  · rintro rfl
    have high : BitVec.ofNat 8 ((256 * x.toNat + y.toNat) / 256) = x := BitVec.eq_of_toNat_eq (by simp; omega)
    have low : BitVec.ofNat 8 (256 * x.toNat + y.toNat) = y := BitVec.eq_of_toNat_eq (by simp; omega)
    exact ⟨by omega, by rw [be16, high, low]⟩
  · rintro ⟨within, sent⟩
    obtain ⟨rfl, rfl⟩ : x = BitVec.ofNat 8 (n / 256) ∧ y = BitVec.ofNat 8 n := by simpa [be16] using sent
    exact (pair_toNat within).symm

/-- The same of a 16-bit value. -/
theorem eq_ofNat_pair_iff {v : Word16} {x y : Byte} :
    v = BitVec.ofNat 16 (256 * x.toNat + y.toNat) ↔ [x, y] = be16 v.toNat := by
  have hx := x.isLt
  have hy := y.isLt
  have number : v = BitVec.ofNat 16 (256 * x.toNat + y.toNat) ↔ v.toNat = 256 * x.toNat + y.toNat := by
    rw [← BitVec.toNat_inj, BitVec.toNat_ofNat, Nat.mod_eq_of_lt (by omega)]
  rw [number, eq_pair_iff]
  exact and_iff_right (by omega)

/-! ## One entry -/

theorem encodeItem_length (e : SchemaItem) : (encodeItem e).length = 7 := rfl

/-- An entry is read from its seven bytes field by field. -/
theorem decodeItem_eq_some {b0 b1 b2 b3 b4 b5 b6 : Byte} {e : SchemaItem} :
    decodeItem [b0, b1, b2, b3, b4, b5, b6] = some e ↔
      b0 = matchModeCode e.matchMode ∧ b1 = signednessCode e.signedness
        ∧ e.tolerance = 256 * b2.toNat + b3.toNat ∧ b4 = fallbackCode e.fallback
        ∧ e.safeValue = BitVec.ofNat 16 (256 * b5.toNat + b6.toNat) := by
  have tolerance : field [b0, b1, b2, b3, b4, b5, b6] 2 2 = 256 * b2.toNat + b3.toNat := field_pair (by simp)
  have safeValue : field [b0, b1, b2, b3, b4, b5, b6] 5 2 = 256 * b5.toNat + b6.toNat := field_pair (by simp)
  rw [← matchModeOfCode_eq_some, ← signednessOfCode_eq_some, ← fallbackOfCode_eq_some]
  unfold decodeItem
  rw [tolerance, safeValue]
  simp only [List.getD_cons_zero, List.getD_cons_succ]
  constructor
  · intro h
    split at h
    · next matchMode signedness fallback mode sign fall =>
      obtain rfl := Option.some.inj h
      exact ⟨mode, sign, rfl, fall, rfl⟩
    · cases h
  · rintro ⟨mode, sign, tolerance, fall, safeValue⟩
    rw [mode, sign, fall, ← tolerance, ← safeValue]

/-- Seven bytes decode to an entry exactly when they are its encoding. -/
theorem decodeItem_eq_some_iff {bytes : List Byte} (len : bytes.length = 7) {e : SchemaItem} :
    decodeItem bytes = some e ↔ e.tolerance ≤ 65535 ∧ bytes = encodeItem e := by
  match bytes, len with
  | [b0, b1, b2, b3, b4, b5, b6], _ =>
    rw [decodeItem_eq_some, eq_pair_iff, eq_ofNat_pair_iff]
    simp only [encodeItem, be16, List.cons_append, List.nil_append, List.cons.injEq, and_true]
    tauto

/-! ## The entries -/

/-- Bytes decode to a number of entries exactly when they are the encodings of that many, one after another. -/
theorem decodeItems_eq_some_iff (n : Nat) (bytes : List Byte) (items : List SchemaItem) :
    decodeItems n bytes = some items ↔
      items.length = n ∧ (∀ e ∈ items, e.tolerance ≤ 65535) ∧ bytes = items.flatMap encodeItem := by
  induction n generalizing bytes items with
  | zero =>
    rw [decodeItems, List.length_eq_zero_iff]
    constructor
    · intro h
      split at h
      · next empty =>
        obtain rfl := Option.some.inj h
        exact ⟨rfl, nofun, empty⟩
      · cases h
    · rintro ⟨rfl, -, rfl⟩
      rfl
  | succ n ih =>
    rw [decodeItems]
    constructor
    · intro h
      split at h
      · cases h
      · next long =>
        split at h
        · next e rest first others =>
          obtain rfl := Option.some.inj h
          obtain ⟨within, encoded⟩ := (decodeItem_eq_some_iff (by simp; omega)).mp first
          obtain ⟨rfl, allWithin, encodedRest⟩ := (ih _ _).mp others
          refine ⟨rfl, List.forall_mem_cons.mpr ⟨within, allWithin⟩, ?_⟩
          rw [List.flatMap_cons, ← encoded, ← encodedRest, List.take_append_drop]
        · cases h
    · rintro ⟨len, within, rfl⟩
      obtain ⟨e, rest, rfl⟩ := List.exists_cons_of_length_eq_add_one len
      obtain ⟨first, others⟩ := List.forall_mem_cons.mp within
      have decodedFirst : decodeItem (encodeItem e) = some e := (decodeItem_eq_some_iff rfl).mpr ⟨first, rfl⟩
      have decodedRest : decodeItems n (rest.flatMap encodeItem) = some rest :=
        (ih _ _).mpr ⟨Nat.succ.inj len, others, rfl⟩
      rw [List.flatMap_cons, List.take_left' (encodeItem_length e), List.drop_left' (encodeItem_length e), decodedFirst,
        decodedRest, if_neg (by simp [encodeItem_length])]

/-- A valid schema is the one of 1 to 32 entries whose encoding the bytes are (R4). -/
theorem decodeSchema_eq_some_iff (bytes : List Byte) (items : List SchemaItem) :
    decodeSchema bytes = some items ↔
      1 ≤ items.length ∧ items.length ≤ 32 ∧ (∀ e ∈ items, e.tolerance ≤ 65535) ∧ bytes = encodeSchema items := by
  match bytes with
  | [] => exact iff_of_false nofun fun ⟨_, _, _, h⟩ => nomatch h
  | count :: bytes =>
    have encoded : count :: bytes = encodeSchema items ↔
        count = BitVec.ofNat 8 items.length ∧ bytes = items.flatMap encodeItem := List.cons.injEq .. ▸ Iff.rfl
    rw [encoded, decodeSchema]
    constructor
    · intro h
      split at h
      · next range =>
        obtain ⟨len, within, rest⟩ := (decodeItems_eq_some_iff _ _ _).mp h
        refine ⟨by omega, by omega, within, ?_, rest⟩
        rw [len, BitVec.ofNat_toNat, BitVec.setWidth_eq]
      · cases h
    · rintro ⟨low, high, within, rfl, rest⟩
      rw [byte_toNat (by omega), if_pos ⟨low, high⟩]
      exact (decodeItems_eq_some_iff _ _ _).mpr ⟨rfl, within, rest⟩

theorem encodeSchema_length (items : List SchemaItem) : (encodeSchema items).length = 1 + 7 * items.length := by
  simp [encodeSchema, be8, List.length_flatMap, encodeItem_length, Nat.mul_comm, Nat.add_comm]

/-- The seven bytes of an entry, as the table of R174 gives them. -/
theorem encodeItem_eq (e : SchemaItem) : encodeItem e =
    [ if e.matchMode = .band then 1 else 0, if e.signedness = .signed then 1 else 0,
      BitVec.ofNat 8 (e.tolerance / 256), BitVec.ofNat 8 e.tolerance, if e.fallback = .safe then 1 else 0,
      e.safeValue.extractLsb' 8 8, e.safeValue.extractLsb' 0 8 ] := by
  have mode : matchModeCode e.matchMode = if e.matchMode = .band then 1 else 0 := by cases e.matchMode <;> rfl
  have sign : signednessCode e.signedness = if e.signedness = .signed then 1 else 0 := by cases e.signedness <;> rfl
  have fallback : fallbackCode e.fallback = if e.fallback = .safe then 1 else 0 := by cases e.fallback <;> rfl
  rw [encodeItem, mode, sign, fallback, FrameBytes.be16_toNat]
  rfl

end Sys2Proof.Proofs.SchemaEncoding

open Sys2Proof Sys2Proof.Machine Sys2Proof.Proofs.SchemaEncoding

/-- Settles O30: both directions are `decodeSchema_eq_some_iff`, and the layout is `encodeItem_eq`, entry by entry. -/
theorem schemaDecodesFromItsEncoding : Obligations.SchemaDecodesFromItsEncoding := by
  unfold Obligations.SchemaDecodesFromItsEncoding
  refine ⟨fun items low high within => ⟨encodeSchema_length items, ?_⟩, fun bytes items => ?_, fun items => ?_⟩
  · exact (decodeSchema_eq_some_iff _ _).mpr ⟨low, high, within, rfl⟩
  · exact (decodeSchema_eq_some_iff bytes items).mp
  · exact congrArg (BitVec.ofNat 8 items.length :: ·) (List.flatMap_congr fun e _ => encodeItem_eq e)

end

section
/-! Lemmas about a line that goes quiet, and the loss of a channel's link as the Membership Table takes it (R36, R37, R147,
R154). -/

namespace Sys2Proof.Proofs.QuietLine

open Sys2Proof.Machine Sys2Proof.Proofs.EventNotices Sys2Proof.Proofs.Offers Sys2Proof.Proofs.SoundParts
  Sys2Proof.Proofs.MembersSettle Sys2Proof.Proofs.Departures Sys2Proof.Proofs.Leaving Sys2Proof.Proofs.FourthBadFrame

/-! ## The loss of a link (R36, R37) -/

variable {s u : State} {ch : Channel}

/-- The standing of a channel whose link is lost: a voter's exclusion is counted (R37, R107). -/
def unlinkedStanding (isVoter : Bool) (st : Standing) : Standing :=
  { st with counters := { st.counters with
      exclusions := if isVoter then min (st.counters.exclusions + 1) 65535 else st.counters.exclusions } }

/-- What the loss of channel `ch`'s link leaves, before its notices are placed; `u` is the part as the loss finds it, and `s`
as the event does. -/
structure LinkLost (s u t : State) (ch : Channel) : Prop where
  left : s.leftBy t ch
  members : t.members = s.members.set ch (lostMember s ch)
  standing : t.standing = u.standing.set ch (unlinkedStanding (s.channelState ch).isVoter (u.standing.get ch))
  outbox : t.outbox = toAll ((if (s.channelState ch).isVoter then [.excluded ch .linkLost] else []) ++ s.leftNotices t ch)

section Loss

variable (hs : Sound s) (kept : s.keepsAllBut u [.standing, .ports])
include kept

theorem channelState_of_kept (x : Channel) : u.channelState x = s.channelState x := by
  rw [State.channelState, State.channelState, show u.members = s.members from kept .members (by decide)]

include hs

theorem linkLost_of_voter (hv : (s.channelState ch).isVoter = true) : LinkLost s u (u.linkLoss ch) ch := by
  have voting : u.votingSet = s.votingSet := votingSet_congr fun x => by rw [channelState_of_kept kept]
  obtain ⟨left, outbox, members, standing, -⟩ := exclude_settled hs (kept.mono (by decide)) hv voting .linkLost
  rw [linkLoss_of_voter (by rwa [channelState_of_kept kept])]
  refine ⟨left, members.trans ?_, standing.trans ?_, ?_⟩
  · rw [lostMember, if_pos hv]
    rfl
  · rw [unlinkedStanding, if_pos hv]
    rfl
  · rw [outbox, show u.outbox = [] from Eq.trans (kept .outbox (by decide)) (outbox_eq_nil hs), if_pos hv]
    rfl

/-- Of the channels in no voter state, only a LINKED one's departure reaches the Change Table, while the group is EMPTY
(R36, R141). -/
theorem departed_of_not_voter (hv : (s.channelState ch).isVoter = false) (hd : s.channelState ch ≠ .detached) :
    (u.modMember ch detachedMember).keepsAllBut (u.linkLoss ch) [.timer, .changes, .part, .outbox]
      ∧ s.changesNow (u.linkLoss ch) (if s.reachesChanges ch then s.changes.without ch else s.changes)
      ∧ (u.linkLoss ch).part = { s.part with changesVoided := (u.linkLoss ch).part.changesVoided }
      ∧ (u.linkLoss ch).outbox = toAll (if s.reachesChanges ch then s.changes.departureNotices ch else []) := by
  have state := channelState_of_kept kept ch
  have empty : u.outbox = [] := Eq.trans (kept .outbox (by decide)) (outbox_eq_nil hs)
  have changes : (u.modMember ch detachedMember).changes = s.changes := kept .changes (by decide)
  have part : (u.modMember ch detachedMember).part = s.part := kept .part (by decide)
  have timer : (u.modMember ch detachedMember).timer = s.timer := kept .timer (by decide)
  have store : u.store = s.store := kept .store (by decide)
  cases hr : s.reachesChanges ch with
  | false =>
    rw [linkLoss_of_not_reaching (by rwa [state]) (by rwa [state]) (by rwa [State.reachesChanges, state, store])]
    exact ⟨.refl _ _, changesNow_of_same hs changes part timer, by rw [part], empty⟩
  | true =>
    have notVoting : s.channelState ch ≠ .voting := fun h => by rw [h] at hv; cases hv
    obtain ⟨linked, notInstalled⟩ : s.channelState ch = .linked ∧ s.store.installed = none := by
      simpa [State.reachesChanges, notVoting] using hr
    obtain ⟨-, tickets, -⟩ := FoundingExpiry.changes_parts hs
    have depart := depart_eq (s := u.modMember ch detachedMember) ch (reached := fun e => e.isFound) (by rwa [changes])
      fun e he _ => by
        rw [changes] at he
        rw [isFound_eq hs he, notInstalled]
        rfl
    rw [changes] at depart
    rw [linkLoss_of_linked (state.trans linked) (by rw [store, notInstalled]), depart]
    refine ⟨?_, changesNow_afterDeparture ch hs changes part timer, ?_, ?_⟩
    · rw [← depart]
      exact State.depart_keeps _ ch _
    · simp only [afterDeparture, part]
    · simp only [afterDeparture, State.modMember_outbox, empty, List.nil_append]
      rfl

theorem linkLost_of_not_voter (hv : (s.channelState ch).isVoter = false) (hd : s.channelState ch ≠ .detached) :
    LinkLost s u (u.linkLoss ch) ch := by
  obtain ⟨after, changesNow, part, outbox⟩ := departed_of_not_voter hs kept hv hd
  generalize u.linkLoss ch = t at after changesNow part outbox
  have members : t.members = s.members.set ch (lostMember s ch) := by
    rw [show t.members = _ from after .members (by decide), State.modMember_members,
      show u.members = s.members from kept .members (by decide), lostMember, hv]
    rfl
  have voting : t.votingSet = s.votingSet := votingSet_congr fun x => by
    have notVoting : s.channelState ch ≠ .voting := fun h => by rw [h] at hv; cases hv
    rw [State.channelState, State.channelState, members]
    by_cases hx : x = ch
    · subst hx
      simpa [lostMember, State.channelState] using notVoting
    · rw [PerChannel.get_set_other _ hx]
  have group : t.groupState = s.groupState := Eq.trans (after .groupState (by decide)) (kept .groupState (by decide))
  refine ⟨leftBy_of_not_voter hs hv (Eq.trans (after .store (by decide)) (kept .store (by decide)))
    (Eq.trans (after .window (by decide)) (kept .window (by decide))) group voting changesNow part, members, ?_, ?_⟩
  · rw [show t.standing = u.standing from after .standing (by decide), hv]
    exact (PerChannel.set_get _ ch).symm
  · rw [outbox, hv, State.leftNotices, State.groupNotice, if_pos group]
    simp

theorem linkLost (hd : s.channelState ch ≠ .detached) : LinkLost s u (u.linkLoss ch) ch := by
  cases hv : (s.channelState ch).isVoter with
  | true => exact linkLost_of_voter hs kept hv
  | false => exact linkLost_of_not_voter hs kept hv hd

end Loss

/-! ## The quiet line (R147, R154) -/

/-- A port whose line, being UP, has gone quiet: nothing waits and nothing is sent on. -/
def downPort (p : Port) : Port where
  line := .down
  receiver := .seeking
  huntRun := 0
  badRun := 0
  markSlot := none
  notices := []
  verdicts := []
  replySlot := none
  lostNotices := 0
  transmitter := (match p.transmitter with | .frame _ => .abandoned | x => x)

/-- The part when the port of the quiet line has left UP, before the Membership Table takes the loss. -/
def quieted (s : State) (ch : Channel) : State :=
  { s with
    ports := s.ports.set ch (downPort (s.ports.get ch))
    standing := s.standing.set ch
      { s.standing.get ch with counters := skipped (s.ports.get ch) (s.standing.get ch).counters } }

theorem quieted_keeps : s.keepsAllBut (quieted s ch) [.standing, .ports] := fun b hb => by
  cases b <;> simp_all [State.sameBlock, quieted]

theorem quietLine_of_not_up (hpin : s.resetPin = .high) (h : (s.ports.get ch).line ≠ .up) : s.quietLine ch =
    { s with
      ports := s.ports.set ch { s.ports.get ch with line := .down, receiver := .seeking, huntRun := 0, badRun := 0 } } := by
  have receiving : s.receiving = true := by rw [State.receiving, hpin]; rfl
  rw [State.quietLine, if_pos receiving]
  cases line : (s.ports.get ch).line with
  | up => exact absurd line h
  | hunt | down => simp [State.modPort]

/-- The port leaves UP, a waiting MARK being counted (R154). -/
theorem quieted_eq (q : State) (hq : q = s.modPort ch fun p => { p with receiver := .seeking, huntRun := 0, badRun := 0 }) :
    ((if (q.ports.get ch).markSlot.isSome then q.count ch .marksSkipped else q).modPort ch fun p =>
      { p.leaveUp with line := .down, huntRun := 0, badRun := 0 }) = quieted s ch := by
  have waiting : (q.ports.get ch).markSlot = (s.ports.get ch).markSlot := by
    rw [hq, State.modPort_ports, PerChannel.get_set_same]
  have ports : q.ports.set ch { (q.ports.get ch).leaveUp with line := .down, huntRun := 0, badRun := 0 } =
      s.ports.set ch (downPort (s.ports.get ch)) := by
    rw [hq, State.modPort_ports, PerChannel.get_set_same, PerChannel.set_set]
    rfl
  have standing : (s.standing.set ch
      { s.standing.get ch with counters := skipped (s.ports.get ch) (s.standing.get ch).counters }) =
      if (s.ports.get ch).markSlot.isSome then (s.count ch .marksSkipped).standing else s.standing := by
    cases slot : (s.ports.get ch).markSlot with
    | none =>
      rw [skipped, if_pos slot]
      exact PerChannel.set_get _ ch
    | some f => simp [skipped, slot, Counters.bump, saturate16]
  rw [waiting, quieted, ← ports, standing, hq]
  split <;> rfl

theorem quietLine_of_up (hpin : s.resetPin = .high) (h : (s.ports.get ch).line = .up) :
    s.quietLine ch = ((quieted s ch).linkLoss ch).settleNotices := by
  have receiving : s.receiving = true := by rw [State.receiving, hpin]; rfl
  rw [State.quietLine, if_pos receiving, h, ← quieted_eq _ rfl]
  rfl

end Sys2Proof.Proofs.QuietLine

open Sys2Proof Sys2Proof.Machine Sys2Proof.Proofs.EventNotices Sys2Proof.Proofs.Offers Sys2Proof.Proofs.SoundParts
  Sys2Proof.Proofs.Leaving Sys2Proof.Proofs.Weighing Sys2Proof.Proofs.FourthBadFrame Sys2Proof.Proofs.QuietLine

/-- Settles O20: a line that is not UP only goes DOWN (`quietLine_of_not_up`); one that is UP leaves it (`quieted`), and the
Membership Table takes the loss of the link (`linkLost`). -/
theorem quietLineGoesDown : Obligations.QuietLineGoesDown := by
  unfold Obligations.QuietLineGoesDown
  refine ⟨fun s cfg h => ?_, fun s awaiting installed => ?_, fun s ch hpin hs => ?_⟩
  · have current : s.store.current = some cfg := h
    simp [State.currentHoldoff, Store.currentEpoch, Store.currentDigest, current]
  · have current : s.store.current = none := by simp only [Store.current, awaiting, installed]
    simp [Store.currentEpoch, Store.currentDigest, current]
  · intro p m c isVoter
    refine ⟨fun h => congrArg Host.Outcome.next (quietLine_of_not_up hpin h), fun up => ?_⟩
    have attached : s.channelState ch ≠ .detached := fun h => (detached_iff hs ch).mp h up
    obtain ⟨left, members, standing, outbox⟩ := linkLost hs (quieted_keeps (ch := ch)) attached
    have kept : s.keepsAllBut ((quieted s ch).linkLoss ch)
        [.ports, .members, .standing, .window, .groupState, .changes, .timer, .part, .outbox] :=
      (quieted_keeps.mono (by decide)).trans ((State.linkLoss_keeps _ ch).mono (by decide))
    have ports : ((quieted s ch).linkLoss ch).ports = s.ports.set ch (downPort (s.ports.get ch)) :=
      State.linkLoss_keeps _ ch .ports (by decide)
    have event : exec (.lineQuiet ch) s = _ := congrArg Host.Outcome.next (quietLine_of_up hpin up)
    have voter : (s.channelState ch).isVoter = true ↔ isVoter := isVoter_iff
    generalize (quieted s ch).linkLoss ch = t at event left members standing outbox ports kept
    refine ⟨t.settleNotices, event, ?_, fun x hx => ?_, fun x => ?_, fun x => ?_, leftBy_settleNotices left,
      keeps_settleNotices kept (outbox_eq_nil hs) (by decide) (by decide)⟩
    · obtain ⟨draw, port⟩ := t.settleNotices_port ch
      rw [port, if_neg (by simp [State.isUp, ports, downPort]), ports, PerChannel.get_set_same]
      rfl
    · have offers := settleNotices_toAll outbox x
      rw [ports, PerChannel.get_set_other _ hx] at offers
      rw [leftNotices_congr (t.settleNotices_keeps .groupState (by decide))]
      simp only [voter] at offers
      exact offers
    · rw [show t.settleNotices.members = t.members from t.settleNotices_keeps .members (by decide), members,
        PerChannel.get_set, lostMember]
      simp only [voter]
      rfl
    · rw [settleNotices_standing, standing, PerChannel.get_set, quieted, PerChannel.get_set_same, PerChannel.get_set]
      split
      · simp only [unlinkedStanding, skipped, voter]
        rfl
      · rfl

end

section
/-! Lemmas about a CONCUR that completes its entry: what every commit does before its own effects, and how its notices are
ordered (R133 to R135, R137, R138, R157). -/

namespace Sys2Proof.Proofs.Commit

open Sys2Proof.Machine Sys2Proof.Proofs.EventNotices Sys2Proof.Proofs.ChangeRequest Sys2Proof.Proofs.SoundParts
  Sys2Proof.Proofs.Departures Sys2Proof.Proofs.EntryVoids Sys2Proof.Proofs.ConcurRetract

/-- A block found to be the same need not be among those that may differ. -/
theorem keepsAllBut_drop {s t : State} {l : List Block} {b : Block} (h : s.keepsAllBut t (b :: l)) (same : s.sameBlock t b) :
    s.keepsAllBut t l := fun x hx => by
  by_cases hb : x = b
  · rw [hb]
    exact same
  · exact h x (List.not_mem_cons_of_ne_of_not_mem hb hx)

/-! ## The entry of a ticket, and the others -/

section Entries

variable (k : Byte) (f : ChangeEntry → ChangeEntry) (l : List ChangeEntry)

/-- The entries of the other tickets. -/
def others (k : Byte) (l : List ChangeEntry) : List ChangeEntry := l.filter fun e => e.ticket != k

/-- An entry updated keeps its ticket, so that the others are not touched. -/
theorem others_map (hf : ∀ x, (f x).ticket = x.ticket) :
    others k (l.map fun x => if x.ticket = k then f x else x) = others k l := by
  induction l with
  | nil => rfl
  | cons x l ih =>
    simp only [others, List.map_cons, List.filter_cons] at ih ⊢
    by_cases hx : x.ticket = k <;> simp [hx, hf, ih]

theorem named_map (hf : ∀ x, (f x).ticket = x.ticket) :
    ((l.map fun x => if x.ticket = k then f x else x).filter fun x => x.ticket == k) =
      (l.filter fun x => x.ticket == k).map f := by
  induction l with
  | nil => rfl
  | cons x l ih =>
    simp only [List.map_cons, List.filter_cons]
    by_cases hx : x.ticket = k <;> simp [hx, hf, ih]

variable {l} {e : ChangeEntry} (distinct : (l.map (·.ticket)).Nodup) (he : e ∈ l)
include distinct he

theorem eq_of_ticket {x : ChangeEntry} (hx : x ∈ l) (h : x.ticket = e.ticket) : x = e :=
  List.inj_on_of_nodup_map distinct hx he h

theorem named_eq_singleton : (l.filter fun x => x.ticket == e.ticket) = [e] := by
  have single : (l.filter fun x => x.ticket == e.ticket) = l.filter fun x => x == e :=
    List.filter_congr fun x hx => by
      rw [Bool.eq_iff_iff, beq_iff_eq, beq_iff_eq]
      exact ⟨eq_of_ticket distinct he hx, fun h => h ▸ rfl⟩
  rw [single, List.filter_beq, List.count_eq_one_of_mem (List.Nodup.of_map _ distinct) he]
  rfl

theorem others_length : (others e.ticket l).length = l.length - 1 := by
  have split := List.length_eq_length_filter_add (l := l) fun x => x.ticket == e.ticket
  rw [named_eq_singleton distinct he] at split
  have same : (l.filter fun x => !(x.ticket == e.ticket)) = others e.ticket l := rfl
  rw [same, List.length_singleton] at split
  omega

end Entries

/-- The other entry voided at a commit: the table keeps the entry of the ticket alone, and the founding expiries those of no
other (R135, R137, R138). -/
theorem voidOthers_eq (u : State) (k : Byte) (reason : VoidReason) : u.voidOthers k reason =
    { u with
      changes := { u.changes with entries := u.changes.entries.filter fun e => e.ticket == k }
      timer := { u.timer with
        foundingExpiries := u.timer.foundingExpiries.filter fun x =>
          !((others k u.changes.entries).any fun e => e.ticket == x.ticket) }
      part := { u.part with
        changesVoided := saturate16^[(others k u.changes.entries).length] u.part.changesVoided }
      outbox := u.outbox ++ (others k u.changes.entries).map fun e => ⟨1, none, .changeVoided e.ticket reason⟩ } := by
  have table : (u.changes.entries.filter fun e => !((others k u.changes.entries).any fun v => v.ticket == e.ticket)) =
      u.changes.entries.filter fun e => e.ticket == k :=
    List.filter_congr fun e he => by
      rw [Bool.eq_iff_iff]
      simp only [others, Bool.not_eq_true', List.any_eq_false, List.mem_filter, bne_iff_ne, beq_iff_eq]
      exact ⟨fun h => Classical.byContradiction fun hk => h e ⟨he, hk⟩ rfl, fun hk x hx hxe => hx.2 (hxe.trans hk)⟩
  rw [State.voidOthers, foldl_voidEntry, ← table]
  rfl

/-! ## The notices of a commit (R157) -/

/-- The notices of a commit, by their stages. -/
def staged (concurred : Notice) (voided : List Notice) (committed : Notice) (last : List Notice) : List NoticeOffer :=
  ⟨0, none, concurred⟩ :: voided.map (⟨1, none, ·⟩) ++ ⟨2, none, committed⟩ :: last.map (⟨3, none, ·⟩)

theorem noticesFor_map (stage k : Nat) (l : List Notice) (x : Channel) :
    noticesFor (l.map fun n => ⟨stage, none, n⟩) x k = if stage = k then l else [] := by
  by_cases h : stage = k <;> simp [noticesFor, List.filter_map, Function.comp_def, h]

theorem noticesFor_staged (concurred committed : Notice) (voided last : List Notice) (x : Channel) (k : Nat) :
    noticesFor (staged concurred voided committed last) x k =
      (if 0 = k then [concurred] else []) ++ (if 1 = k then voided else []) ++ (if 2 = k then [committed] else [])
        ++ (if 3 = k then last else []) := by
  have parts : staged concurred voided committed last = [concurred].map (⟨0, none, ·⟩) ++ voided.map (⟨1, none, ·⟩)
      ++ [committed].map (⟨2, none, ·⟩) ++ last.map (⟨3, none, ·⟩) := by simp [staged]
  simp only [parts, Offers.noticesFor_append, noticesFor_map]

theorem shuffled_of_short {α : Type} {l : List α} (h : l.length ≤ 1) (draw : Nat) : shuffled l draw = l := by
  match l, h with
  | [], _ => rfl
  | [x], _ => rfl

/-- Each port is offered the notices of a commit in their order, and after them the last ones in an order that no rule
fixes. -/
theorem settleNotices_staged {u : State} {concurred committed : Notice} {voided last : List Notice}
    (h : u.outbox = staged concurred voided committed last) (few : voided.length ≤ 1) (x : Channel) :
    Port.offeredAll ((concurred :: voided ++ [committed]).foldl Port.offered (u.ports.get x))
      (u.settleNotices.ports.get x) last := by
  obtain ⟨draw, port⟩ := u.settleNotices_port x
  have order : noticesInOrder u.outbox x draw =
      (concurred :: voided ++ [committed]) ++ shuffled last (draw + 3 * u.outbox.length) := by
    simp [noticesInOrder, h, noticesFor_staged, List.range, List.range.loop, shuffled_of_short few, shuffled_singleton]
  refine ⟨shuffled last (draw + 3 * u.outbox.length), shuffled_perm _ _, ?_⟩
  rw [port, ← List.foldl_append, ← order, Port.foldl_offered]
  simp [State.isUp]

/-! ## A concurrence that completes its entry -/

variable {s : State} {ch : Channel} {p : List Byte} {e : ChangeEntry}

/-- A CONCUR that passes the table of R133 names a PENDING entry, comes from a channel that may give it, and is taken. -/
theorem concur_of_none_met (h : firstMet (s.concurTable ch p) = none) : ∃ e ∈ s.changes.entries,
    e.ticket = p.getD 0 0 ∧ e.state = .pending ∧ s.mayConcur ch e = true ∧ s.takeConcur ch p = s.addConcurrence ch e := by
  obtain ⟨none, -⟩ | ⟨e, he, named, found, pending, ticket⟩ := named_cases s.changes (p.getD 0 0)
  · rw [firstMet_concurTable_of_none none] at h
    cases h
  · rw [firstMet_concurTable named pending] at h
    obtain ⟨may, digest, joins⟩ : s.mayConcur ch e = true ∧ field32 (p ++ List.replicate 5 0) 1 = e.payloadDigest
        ∧ e.concurrence.get ch = false := by simpa [firstMet, concurChecks] using h
    have state : e.state = .pending := by
      have match_ := List.find?_some pending
      simp only [Bool.and_eq_true, beq_iff_eq] at match_
      exact match_.2
    refine ⟨e, he, ticket, state, may, ?_⟩
    rw [takeConcur_of_named found, if_neg (by simp [may]), if_neg (not_not.mpr digest), if_neg (by simp [joins])]

theorem up_of_mayConcur (hs : Sound s) (h : s.mayConcur ch e = true) : (s.ports.get ch).line = .up := by
  have attached : s.channelState ch ≠ .detached := by
    intro detached
    unfold State.mayConcur at h
    split at h <;> simp [detached] at h
  exact Classical.byContradiction fun down => attached ((detached_iff hs ch).mpr down)

/-- A CONCUR heard in UP that completes its entry commits it in its event (R133, R134). -/
theorem exec_concur_commits (hpin : s.resetPin = .high) (hs : Sound s) (hmet : firstMet (s.concurTable ch p) = none)
    (he : e ∈ s.changes.entries) (hk : e.ticket = p.getD 0 0) (quorum : (joined ch e).quorumMet s.store.installed = true) :
    e.state = .pending
      ∧ exec (.concur ch p) s = .next ((concurred (heard s ch) ch e).commit (joined ch e)).settleNotices := by
  obtain ⟨-, distinct, -⟩ := FoundingExpiry.changes_parts hs
  obtain ⟨x, hx, ticket, pending, may, take⟩ := concur_of_none_met (s := heard s ch) hmet
  obtain rfl : x = e := eq_of_ticket distinct he hx (ticket.trans hk.symm)
  have event : exec (.concur ch p) s = .next ((heard s ch).takeConcur ch p).settleNotices :=
    congrArg Host.Outcome.next (receiveGood_of_up hpin (up_of_mayConcur hs may) _)
  refine ⟨pending, event.trans ?_⟩
  rw [take]
  exact congrArg (fun t => Host.Outcome.next (State.settleNotices t)) (if_pos quorum)

/-! ## What a commit finds -/

section Found

variable (hs : Sound s) (he : e ∈ s.changes.entries)
include hs he

/-- The state that a commit starts from has the entry with its new concurrence, and the others as they were. -/
theorem concurred_entries :
    ((concurred (heard s ch) ch e).changes.entries.filter fun x => x.ticket == e.ticket) = [joined ch e]
      ∧ others e.ticket (concurred (heard s ch) ch e).changes.entries = others e.ticket s.changes.entries := by
  obtain ⟨-, distinct, -⟩ := FoundingExpiry.changes_parts hs
  have table : (concurred (heard s ch) ch e).changes.entries =
      s.changes.entries.map fun x => if x.ticket = e.ticket then { joined ch e with ticket := x.ticket } else x :=
    List.map_congr_left fun x _ => by
      by_cases hx : x.ticket = e.ticket
      · rw [if_pos hx, if_pos hx, hx]
        rfl
      · rw [if_neg hx, if_neg hx]
  rw [table]
  refine ⟨?_, others_map e.ticket (fun x => { joined ch e with ticket := x.ticket }) _ fun _ => rfl⟩
  rw [named_map e.ticket (fun x => { joined ch e with ticket := x.ticket }) _ fun _ => rfl,
    named_eq_singleton distinct he]
  rfl

/-- Two entries at the most are in the table (R127), so that at most one is voided. -/
theorem others_length_le_one : (others e.ticket s.changes.entries).length ≤ 1 := by
  obtain ⟨-, distinct, -⟩ := FoundingExpiry.changes_parts hs
  have bounded := hs.bounded
  simp only [State.bounded, Bool.and_eq_true, decide_eq_true_eq] at bounded
  rw [others_length distinct he]
  omega

theorem voided_count : saturate16^[(others e.ticket s.changes.entries).length] s.part.changesVoided =
    min (s.part.changesVoided + (s.changes.entries.length - 1)) 65535 := by
  obtain ⟨-, distinct, -⟩ := FoundingExpiry.changes_parts hs
  rw [saturate16_iterate _ (changesVoided_le hs), others_length distinct he]

end Found

theorem concurred_kept : s.keepsAllBut (concurred (heard s ch) ch e) [.standing, .ports, .changes, .outbox] :=
  ((heard_keeps s ch).mono (by decide)).trans (concurred_keeps.mono (by decide))

theorem concurred_outboxOf (hs : Sound s) (e : ChangeEntry) : (concurred (heard s ch) ch e).outbox =
    [⟨0, none, .concurred e.ticket (joined ch e).concurrence.card⟩] := by
  change s.outbox ++ [_] = _
  rw [outbox_eq_nil hs, List.nil_append]

/-- The notices of the commit of entry `e`, by their stages. -/
def commitOffers (s : State) (ch : Channel) (e : ChangeEntry) (reason : VoidReason) (committed : Notice)
    (last : List Notice) : List NoticeOffer :=
  staged (.concurred e.ticket (joined ch e).concurrence.card)
    ((others e.ticket s.changes.entries).map fun x => .changeVoided x.ticket reason) committed last

/-- A commit whose notices are those of `commitOffers` has told every port so. -/
theorem ports_of_commit (hs : Sound s) (he : e ∈ s.changes.entries) {t : State} {reason : VoidReason} {committed : Notice}
    {last : List Notice} (outbox : t.outbox = commitOffers s ch e reason committed last)
    (ports : t.ports = (heard s ch).ports) (x : Channel) :
    Port.offeredAll
      ((s.commitNotices e.ticket (joined ch e).concurrence.card reason committed).foldl Port.offered (s.heardPort ch x))
      (t.settleNotices.ports.get x) last := by
  have offers := settleNotices_staged outbox (by rw [List.length_map]; exact others_length_le_one hs he) x
  rwa [ports, heard_port] at offers

theorem standing_of_commit {t : State} (standing : t.standing = (heard s ch).standing) (x : Channel) :
    t.settleNotices.standing.get x = s.heardStanding ch x := by
  rw [settleNotices_standing, standing, heard_standing]

end Sys2Proof.Proofs.Commit

end

section
/-! Lemmas about the commit of a GROUP, SCHEMA or PARDON entry: what its payload produces, and what the commit leaves (R5, R6,
R9, R135, R136). -/

namespace Sys2Proof.Proofs.ChangeCommit

open Sys2Proof.Machine Sys2Proof.Proofs.Commit

theorem configurationDigest_eq (r : GroupRecord) (items : List SchemaItem) :
    configurationDigest r items = crc32 (encodeRecord r ++ encodeSchema items) := rfl

/-- What a change replaces of the installed configuration, and what it carries over (R9, R128). -/
def carriesOver (p : Payload) (cfg : Configuration) (w : Awaiting) : Prop :=
  match p with
  | .group r => w.kind = .group ∧ w.config.record = r ∧ w.config.schema = cfg.schema
  | .schema items => w.kind = .schema ∧ w.config.record = cfg.record ∧ w.config.schema = items
  | .pardon o => w.kind = .pardon o ∧ w.config.record = cfg.record ∧ w.config.schema = cfg.schema
  | .found _ _ | .dissolve => False

/-- The configuration that a change produces (R5, R6, R9). -/
theorem produces_spec {p : Payload} (cfg : Configuration) (epoch : Word32) (activation : Cycle)
    (notFound : p.foundingMembers = none) (notDissolve : p ≠ .dissolve) : ∃ w, p.produces cfg epoch activation = some w
      ∧ w.config.epoch = epoch ∧ w.config.firstCycle = activation
      ∧ w.config.digest = crc32 (encodeRecord w.config.record ++ encodeSchema w.config.schema)
      ∧ carriesOver p cfg w := by
  cases p with
  | found => cases notFound
  | dissolve => exact absurd rfl notDissolve
  | group | schema | pardon =>
    refine ⟨_, rfl, rfl, rfl, ?_, rfl, rfl, rfl⟩
    dsimp only
    exact configurationDigest_eq _ _

/-- An entry COMMITTED for a cycle (R127, R136). -/
def committedFor (activation : Cycle) (e : ChangeEntry) : ChangeEntry :=
  { e with state := .committed activation, expiry := none }

theorem commitChange_eq {u : State} {e : ChangeEntry} {cfg : Configuration} {run : RunningTimer} {w : Awaiting}
    (installed : u.store.installed = some cfg) (running : u.timer.running = some run)
    (produced : e.payload.produces cfg (u.store.currentEpoch + 1) (run.nextCycle + 1) = some w) : u.commitChange e =
      { u with
        store := { u.store with awaiting := some w }
        changes := { u.changes with
          entries := (u.changes.entries.filter fun x => x.ticket == e.ticket).map (committedFor (run.nextCycle + 1)) }
        timer := { u.timer with
          foundingExpiries := u.timer.foundingExpiries.filter fun x =>
            !((others e.ticket u.changes.entries).any fun v => v.ticket == x.ticket) }
        part := { u.part with
          changesVoided := saturate16^[(others e.ticket u.changes.entries).length] u.part.changesVoided
          changesCommitted := saturate16 u.part.changesCommitted }
        outbox := u.outbox ++ (others e.ticket u.changes.entries).map (fun x => ⟨1, none, .changeVoided x.ticket .superseded⟩)
          ++ [⟨2, none, .changeCommitted e.ticket w.config.epoch w.config.digest (some (run.nextCycle + 1))⟩] } := by
  have ticketKept (x : ChangeEntry) : (committedFor (run.nextCycle + 1) x).ticket = x.ticket := rfl
  have table := named_map e.ticket (committedFor (run.nextCycle + 1)) u.changes.entries ticketKept
  have rest := others_map e.ticket (committedFor (run.nextCycle + 1)) u.changes.entries ticketKept
  unfold State.commitChange
  split
  · next cfg' run' installed' running' =>
    obtain rfl : cfg' = cfg := Option.some.inj (installed'.symm.trans installed)
    obtain rfl : run' = run := Option.some.inj (running'.symm.trans running)
    simp only [produced]
    rw [voidOthers_eq, ← table, ← rest]
    rfl
  · next absent => exact absurd running (absent cfg run installed)

theorem commit_of_change {p : Payload} (u : State) {e : ChangeEntry} (hp : e.payload = p)
    (notFound : p.foundingMembers = none) (notDissolve : p ≠ .dissolve) : u.commit e = u.commitChange e := by
  rw [State.commit, hp]
  cases p with
  | found => cases notFound
  | dissolve => exact absurd rfl notDissolve
  | group | schema | pardon => rfl

theorem setBlocks_keeps (u : State) (store : Store) (changes : ChangeTable) (timer : Timer) (part : PartCounters)
    (outbox : List NoticeOffer) : u.keepsAllBut
      { u with store := store, changes := changes, timer := timer, part := part, outbox := outbox }
      [.store, .changes, .timer, .part, .outbox] := fun b hb => by
  cases b <;> simp_all [State.sameBlock]

theorem timer_of_no_expiries {t : Timer} (h : t.foundingExpiries = []) (f : FoundingExpiry → Bool) :
    { t with foundingExpiries := t.foundingExpiries.filter f } = t := by
  rw [show t.foundingExpiries.filter f = t.foundingExpiries by rw [h]; rfl]

/-- A PENDING entry builds on the current epoch, which is the installed one while no change waits (R5, R7, R129). -/
theorem currentEpoch_of_pending {s : State} {e : ChangeEntry} {cfg : Configuration} (hs : Sound s)
    (he : e ∈ s.changes.entries) (pending : e.state = .pending) (installed : s.store.installed = some cfg) :
    s.store.currentEpoch = cfg.epoch := by
  obtain ⟨sound, -, -⟩ := FoundingExpiry.changes_parts hs
  have entry := sound e he
  simp only [State.entrySound, pending, Bool.and_eq_true, Option.isNone_iff_eq_none] at entry
  obtain ⟨-, ⟨⟨⟨⟨⟨awaiting, -⟩, -⟩, -⟩, -⟩, -⟩⟩ := entry
  simp [Store.currentEpoch, Store.current, awaiting, installed]

end Sys2Proof.Proofs.ChangeCommit

open Sys2Proof Sys2Proof.Machine Sys2Proof.Proofs Sys2Proof.Proofs.EventNotices Sys2Proof.Proofs.ChangeRequest
  Sys2Proof.Proofs.SoundParts Sys2Proof.Proofs.ConcurRetract Sys2Proof.Proofs.Commit Sys2Proof.Proofs.ChangeCommit

/-- Settles O41: the concurrence is taken and the entry commits in its event (`exec_concur_commits`), which leaves the blocks
as `commitChange_eq` says; the notices are those of every commit (`ports_of_commit`). -/
theorem concurCommitsChange : Obligations.ConcurCommitsChange := by
  unfold Obligations.ConcurCommitsChange
  intro s ch p e cfg run hpin hs hmet he hk installed running notDissolve e' quorum
  obtain ⟨pending, event⟩ := exec_concur_commits hpin hs hmet he hk quorum
  have notFound : e.payload.foundingMembers = none := by
    have found := isFound_eq hs he
    rw [installed] at found
    simpa [ChangeEntry.isFound] using found
  obtain ⟨w, produced, epoch, firstCycle, digest, carried⟩ :=
    produces_spec cfg (s.store.currentEpoch + 1) (run.nextCycle + 1) notFound notDissolve
  have kept := concurred_kept (s := s) (ch := ch) (e := e)
  obtain ⟨table, rest⟩ := concurred_entries (ch := ch) hs he
  have commit := (commit_of_change (concurred (heard s ch) ch e) (e := joined ch e) rfl notFound notDissolve).trans
    (commitChange_eq installed running produced)
  have counter : (concurred (heard s ch) ch e).changes.ticketCounter = s.changes.ticketCounter := rfl
  have outbox := concurred_outboxOf (ch := ch) hs e
  have ports : (concurred (heard s ch) ch e).ports = (heard s ch).ports := rfl
  have standing : (concurred (heard s ch) ch e).standing = (heard s ch).standing := rfl
  generalize concurred (heard s ch) ch e = u at event kept table rest counter commit outbox ports standing
  generalize u.commit (joined ch e) = c at event commit
  have store : c.store = { s.store with awaiting := some w } := by
    rw [commit, show u.store = s.store from kept .store (by decide)]
  have changes : c.changes = { s.changes with entries := [committedFor (run.nextCycle + 1) (joined ch e)] } := by
    have entries : (u.changes.entries.filter fun x => x.ticket == (joined ch e).ticket).map
        (committedFor (run.nextCycle + 1)) = [committedFor (run.nextCycle + 1) (joined ch e)] :=
      congrArg (List.map _) table
    rw [commit]
    dsimp only
    rw [entries, counter]
  have part : c.part = { s.part with
      changesCommitted := min (s.part.changesCommitted + 1) 65535
      changesVoided := min (s.part.changesVoided + (s.changes.entries.length - 1)) 65535 } := by
    rw [commit, ← voided_count hs he, ← rest, show u.part = s.part from kept .part (by decide)]
    rfl
  have timer : c.timer = s.timer := by
    rw [commit, show u.timer = s.timer from kept .timer (by decide)]
    exact timer_of_no_expiries (foundingExpiries_of_installed hs installed) _
  have offers : c.outbox = commitOffers s ch e .superseded
      (.changeCommitted e.ticket w.config.epoch w.config.digest (some w.config.firstCycle)) [] := by
    rw [commit, outbox, firstCycle, commitOffers, ← rest]
    simp [staged, joined]
  have after : u.keepsAllBut c [.store, .changes, .timer, .part, .outbox] := by
    rw [commit]
    exact setBlocks_keeps u _ _ _ _ _
  have keeps := keepsAllBut_drop (b := .timer) (l := [.store, .changes, .part, .standing, .ports, .outbox])
    ((kept.mono (by decide)).trans (after.mono (by decide))) timer
  have told (x : Channel) := offeredAll_nil (ports_of_commit hs he offers (by rw [commit]; exact ports) x)
  refine ⟨c.settleNotices, w, event, ?_, ?_, firstCycle, digest, carried, ?_, ?_, ?_, told, ?_⟩
  · exact Eq.trans (c.settleNotices_keeps .store (by decide)) store
  · rw [epoch, currentEpoch_of_pending hs he pending installed]
  · exact (settleNotices_changes c).trans changes
  · exact (settleNotices_part c).trans part
  · exact standing_of_commit (by rw [commit]; exact standing)
  · exact keeps_settleNotices keeps (outbox_eq_nil hs) (by decide) (by decide)

end

section
/-! Lemmas about the commit of a FOUND and of a DISSOLVE entry: the table is left empty, and every block of the group begins or
ends (R9, R19, R27, R30, R52, R56, R79, R81, R118, R119, R137, R138). -/

namespace Sys2Proof.Proofs.GroupCommit

open Sys2Proof.Machine Sys2Proof.Proofs.SoundParts Sys2Proof.Proofs.Commit

/-- The voids of a commit, as offers. -/
def voidOffers (l : List ChangeEntry) (reason : VoidReason) : List NoticeOffer :=
  l.map fun e => ⟨1, none, .changeVoided e.ticket reason⟩

/-- The other entry voided and the committed one removed, no entry is left. -/
theorem voidOthers_removeEntry_eq (u : State) (k : Byte) (reason : VoidReason) : (u.voidOthers k reason).removeEntry k =
    { u with
      changes := { u.changes with entries := [] }
      timer := { u.timer with
        foundingExpiries := u.timer.foundingExpiries.filter fun x =>
          !((others k u.changes.entries).any fun e => e.ticket == x.ticket) }
      part := { u.part with
        changesVoided := saturate16^[(others k u.changes.entries).length] u.part.changesVoided }
      outbox := u.outbox ++ voidOffers (others k u.changes.entries) reason } := by
  have none : (u.changes.entries.filter fun e => e.ticket == k).filter (fun e => e.ticket != k) = [] := by
    rw [List.filter_filter, List.filter_eq_nil_iff]
    simp
  rw [voidOthers_eq, ← none]
  rfl

/-! ## FOUND (R9, R27, R52, R81, R118, R137) -/

theorem commitFound_eq (u : State) (e : ChangeEntry) (r : GroupRecord) (items : List SchemaItem) :
    u.commitFound e r items =
      { u with
        store := { u.store with
          installed := some ⟨r, items, 1, configurationDigest r items, 0⟩
          awaiting := none
          retained := []
          items := List.replicate 32 none
          schemaBoundary := none
          retainedNextCycle := some 0 }
        timer := { u.timer with
          running := some ⟨0, u.timer.tickCount + BitVec.ofNat 32 r.period, r.period, r.deadlineOffset⟩
          foundingExpiries := [] }
        window := { Window.reset with nextRound := some 0 }
        groupState := .stalled
        output := { u.output with state := .safe, voidRun := 0, goodRun := 0, safeN := .low }
        changes := { u.changes with entries := [] }
        part := { u.part with
          changesVoided := saturate16^[(others e.ticket u.changes.entries).length] u.part.changesVoided
          changesCommitted := saturate16 u.part.changesCommitted }
        outbox := u.outbox ++ voidOffers (others e.ticket u.changes.entries) .superseded
          ++ [⟨2, none, .changeCommitted e.ticket 1 (configurationDigest r items) (some 0)⟩]
          ++ [⟨3, none, .groupState .stalled⟩] ++ [⟨3, none, .outputState .safe⟩] } := by
  unfold State.commitFound
  rw [voidOthers_removeEntry_eq]
  rfl

theorem foundBlocks_keeps (u : State) (store : Store) (timer : Timer) (window : Window) (group : GroupState)
    (output : OutputPort) (changes : ChangeTable) (part : PartCounters) (outbox : List NoticeOffer) : u.keepsAllBut
      { u with
        store := store, timer := timer, window := window, groupState := group, output := output, changes := changes
        part := part, outbox := outbox }
      [.store, .timer, .window, .groupState, .output, .changes, .part, .outbox] := fun b hb => by
  cases b <;> simp_all [State.sameBlock]

section Empty

variable {s : State} (hs : Sound s) (hi : s.store.installed = none)
include hs hi

/-- An EMPTY store keeps nothing but its restart cause (R5, R17, R19). -/
theorem store_of_not_installed : s.store = { Store.reset with restartCause := s.store.restartCause } := by
  have sound := hs.store
  have bounded := hs.bounded
  simp only [Store.sound, hi, Bool.and_eq_true, Option.isNone_iff_eq_none, beq_iff_eq, List.all_eq_true] at sound
  simp only [State.bounded, Bool.and_eq_true, beq_iff_eq] at bounded
  obtain ⟨⟨⟨⟨awaiting, retained⟩, boundary⟩, nextCycle⟩, allNone⟩ := sound
  obtain ⟨-, length⟩ := bounded
  have items : s.store.items = List.replicate 32 none := List.eq_replicate_iff.mpr ⟨length, allNone⟩
  calc s.store = ⟨s.store.installed, s.store.awaiting, s.store.retained, s.store.items, s.store.schemaBoundary,
        s.store.restartCause, s.store.retainedNextCycle⟩ := rfl
    _ = { Store.reset with restartCause := s.store.restartCause } := by
      rw [hi, awaiting, retained, items, boundary, nextCycle]
      rfl

/-- While the group is EMPTY no round is present and every queue is empty (R51, R58, R60). -/
theorem window_of_not_installed : s.window = Window.reset := by
  have group := hs.group
  simp only [State.groupAgrees, hi, Bool.and_eq_true, Option.isNone_iff_eq_none] at group
  obtain ⟨-, ⟨⟨⟨-, nextRound⟩, -⟩, -⟩, -⟩ := group
  have rounds := hs.rounds
  simp only [State.roundsRun, nextRound, Bool.and_eq_true, beq_iff_eq] at rounds
  have queues : s.window.queues = PerChannel.fill [] := PerChannel.eq_of_get fun ch => by
    rw [PerChannel.get_fill]
    refine queue_eq_nil hs ?_
    obtain h | h := state_of_not_installed hs hi ch <;> rw [h] <;> rfl
  calc s.window = ⟨s.window.queues, s.window.rounds, s.window.nextRound⟩ := rfl
    _ = Window.reset := by rw [queues, rounds.1, nextRound]; rfl

end Empty

/-! ## DISSOLVE (R19, R30, R56, R79, R119, R138) -/

theorem commitDissolve_eq (u : State) (e : ChangeEntry) : u.commitDissolve e =
    { u with
      store := { Store.reset with restartCause := .dissolve }
      timer := { u.timer with running := none, foundingExpiries := [], offers := [] }
      window := Window.reset
      members := PerChannel.build fun ch => (u.members.get ch).dissolved
      groupState := .empty
      standing := PerChannel.build fun ch => { u.standing.get ch with score := 0 }
      part := { u.part with
        changesVoided := saturate16^[(others e.ticket u.changes.entries).length] u.part.changesVoided
        outputOverruns := saturateBy u.part.outputOverruns u.output.queue.length
        changesCommitted := saturate16 u.part.changesCommitted }
      output := { u.output with state := .inactive, voidRun := 0, goodRun := 0, queue := [], safeN := .low }
      changes := { u.changes with entries := [] }
      history := []
      outbox := u.outbox ++ voidOffers (others e.ticket u.changes.entries) .dissolved
        ++ [⟨2, none, .changeCommitted e.ticket 0 0 none⟩] ++ [⟨3, none, .groupState .empty⟩]
        ++ [⟨3, none, .outputState .inactive⟩] } := by
  unfold State.commitDissolve
  rw [voidOthers_removeEntry_eq]
  rfl

end Sys2Proof.Proofs.GroupCommit

open Sys2Proof Sys2Proof.Machine Sys2Proof.Proofs Sys2Proof.Proofs.EventNotices Sys2Proof.Proofs.ChangeRequest
  Sys2Proof.Proofs.SoundParts Sys2Proof.Proofs.ConcurRetract Sys2Proof.Proofs.Commit Sys2Proof.Proofs.ChangeCommit
  Sys2Proof.Proofs.GroupCommit

/-- Settles O42: the entry commits in its event (`exec_concur_commits`), which begins every block of the group
(`commitFound_eq`); the store and the window of an EMPTY part keep nothing that it would have to discard. -/
theorem concurFoundsTheGroup : Obligations.ConcurFoundsTheGroup := by
  unfold Obligations.ConcurFoundsTheGroup
  intro s ch p e r items hpin hs hmet he hk payload all digest
  have members : (joined ch e).concurrence = r.members := PerChannel.eq_of_get all
  have quorum := (EntryRules.quorumMet_of_found (e := joined ch e) payload s.store.installed).mpr members
  obtain ⟨-, event⟩ := exec_concur_commits hpin hs hmet he hk quorum
  have notInstalled : s.store.installed = none := by
    have found := isFound_eq hs he
    rw [ChangeEntry.isFound, payload] at found
    exact Option.isNone_iff_eq_none.mp found.symm
  have kept := concurred_kept (s := s) (ch := ch) (e := e)
  obtain ⟨-, rest⟩ := concurred_entries (ch := ch) hs he
  have commit : (concurred (heard s ch) ch e).commit (joined ch e) = _ :=
    Eq.trans (by rw [State.commit, show (joined ch e).payload = .found r items from payload]) (commitFound_eq _ _ r items)
  have counter : (concurred (heard s ch) ch e).changes.ticketCounter = s.changes.ticketCounter := rfl
  have outbox := concurred_outboxOf (ch := ch) hs e
  have ports : (concurred (heard s ch) ch e).ports = (heard s ch).ports := rfl
  have standing : (concurred (heard s ch) ch e).standing = (heard s ch).standing := rfl
  generalize concurred (heard s ch) ch e = u at event kept rest commit counter outbox ports standing
  generalize u.commit (joined ch e) = c at event commit
  have offers : c.outbox = commitOffers s ch e .superseded (.changeCommitted e.ticket 1 digest (some 0))
      [.groupState .stalled, .outputState .safe] := by
    rw [commit, outbox, commitOffers, ← rest]
    simp [staged, joined, voidOffers, digest, configurationDigest_eq]
  have told := ports_of_commit hs he offers (by rw [commit]; exact ports)
  rw [members] at told
  have after : u.keepsAllBut c [.store, .timer, .window, .groupState, .output, .changes, .part, .outbox] := by
    rw [commit]
    exact foundBlocks_keeps u _ _ _ _ _ _ _ _
  have settled := c.settleNotices_keeps
  refine ⟨c.settleNotices, event, Eq.trans (settled .store (by decide)) ?_, Eq.trans (settled .timer (by decide)) ?_,
    Eq.trans (settled .window (by decide)) ?_, Eq.trans (settled .groupState (by decide)) ?_,
    Eq.trans (settled .output (by decide)) ?_, Eq.trans (settled .changes (by decide)) ?_, Eq.trans (settled .part (by decide)) ?_,
    standing_of_commit (by rw [commit]; exact standing), told,
    keeps_settleNotices ((kept.mono (by decide)).trans (after.mono (by decide))) (outbox_eq_nil hs)
      (l := [.store, .timer, .window, .groupState, .output, .changes, .part, .standing, .ports, .outbox])
      (by decide) (by decide)⟩
  · rw [commit, show u.store = s.store from kept .store (by decide), store_of_not_installed hs notInstalled]
    rfl
  · rw [commit, show u.timer = s.timer from kept .timer (by decide)]
  · rw [commit, window_of_not_installed hs notInstalled]
  · rw [commit]
  · rw [commit, show u.output = s.output from kept .output (by decide)]
  · rw [commit]
    dsimp only
    rw [counter]
  · rw [commit, ← voided_count hs he, ← rest, show u.part = s.part from kept .part (by decide)]
    rfl

/-- Settles O43: the entry commits in its event (`exec_concur_commits`), which ends every block of the group
(`commitDissolve_eq`). -/
theorem concurDissolvesTheGroup : Obligations.ConcurDissolvesTheGroup := by
  unfold Obligations.ConcurDissolvesTheGroup
  intro s ch p e hpin hs hmet he hk payload e' quorum
  obtain ⟨-, event⟩ := exec_concur_commits hpin hs hmet he hk quorum
  have kept := concurred_kept (s := s) (ch := ch) (e := e)
  obtain ⟨-, rest⟩ := concurred_entries (ch := ch) hs he
  have commit : (concurred (heard s ch) ch e).commit (joined ch e) = _ :=
    Eq.trans (by rw [State.commit, show (joined ch e).payload = .dissolve from payload]) (commitDissolve_eq _ _)
  have counter : (concurred (heard s ch) ch e).changes.ticketCounter = s.changes.ticketCounter := rfl
  have outbox := concurred_outboxOf (ch := ch) hs e
  have ports : (concurred (heard s ch) ch e).ports = (heard s ch).ports := rfl
  have standing : (concurred (heard s ch) ch e).standing = (heard s ch).standing := rfl
  generalize concurred (heard s ch) ch e = u at event kept rest commit counter outbox ports standing
  generalize u.commit (joined ch e) = c at event commit
  have offers : c.outbox = commitOffers s ch e .dissolved (.changeCommitted e.ticket 0 0 none)
      [.groupState .empty, .outputState .inactive] := by
    rw [commit, outbox, commitOffers, ← rest]
    simp [staged, joined, voidOffers]
  have told := ports_of_commit hs he offers (by rw [commit]; exact ports)
  have settled := c.settleNotices_keeps
  refine ⟨c.settleNotices, event, Eq.trans (settled .store (by decide)) ?_, Eq.trans (settled .timer (by decide)) ?_,
    fun x => ?_, ?_, ?_, fun x => ?_, Eq.trans (settled .groupState (by decide)) ?_, fun x => ?_,
    Eq.trans (settled .output (by decide)) ?_, Eq.trans (settled .part (by decide)) ?_,
    Eq.trans (settled .changes (by decide)) ?_, Eq.trans (settled .history (by decide)) ?_, told,
    Eq.trans (settled .resetPin (by decide)) ?_, Eq.trans (settled .pending (by decide)) ?_, rfl⟩
  · rw [commit]
    rfl
  · rw [commit, show u.timer = s.timer from kept .timer (by decide)]
  · rw [show c.settleNotices.window = c.window from settled .window (by decide), commit]
    exact PerChannel.get_fill _ x
  · rw [show c.settleNotices.window = c.window from settled .window (by decide), commit]
    rfl
  · rw [show c.settleNotices.window = c.window from settled .window (by decide), commit]
    rfl
  · rw [show c.settleNotices.members = c.members from settled .members (by decide), commit, PerChannel.get_build,
      show u.members = s.members from kept .members (by decide)]
    rfl
  · rw [commit]
  · rw [settleNotices_standing, commit, PerChannel.get_build, standing, heard_standing]
  · rw [commit, show u.output = s.output from kept .output (by decide)]
  · rw [commit, ← voided_count hs he, ← rest, show u.part = s.part from kept .part (by decide),
      show u.output = s.output from kept .output (by decide)]
    rfl
  · rw [commit]
    dsimp only
    rw [counter]
  · rw [commit]
  · rw [commit]
    exact kept .resetPin (by decide)
  · rw [commit]
    exact kept .pending (by decide)

end

section
/-! Lemmas about the serial order of cycle numbers and the configuration in force for a cycle (00_scope.md, R8). -/

namespace Sys2Proof.Proofs.InForce

open Sys2Proof.Machine

/-! ## The serial order (00_scope.md, Cycle numbers) -/

theorem older_iff (c d : Cycle) : older c d = true ↔ 1 ≤ (d - c).toNat ∧ (d - c).toNat ≤ 2147483647 := by
  simp [older]

theorem sameOrNewer_iff (c d : Cycle) : sameOrNewer d c = true ↔ d = c ∨ older c d = true := by
  simp [sameOrNewer]

/-- No cycle is older than one that it is the same as, or newer than. -/
theorem not_older_of_sameOrNewer {c a : Cycle} (h : sameOrNewer c a = true) : older c a = false := by
  rw [Bool.eq_false_iff]
  intro before
  rw [older_iff] at before
  obtain rfl | after := (sameOrNewer_iff a c).mp h
  · simp at before
  · rw [older_iff] at after
    bv_omega

/-! ## The configuration in force (R8) -/

/-- The search passes over the configurations whose followers have begun by the cycle, and stops at the one whose follower has
not. -/
theorem retainedFor_eq (c : Cycle) (r next cfg : Configuration) (begins : older c next.firstCycle = true) :
    ∀ (before retained after : List Configuration), retained ++ [cfg] = before ++ r :: next :: after →
      (∀ x ∈ (before ++ [r]).tail, older c x.firstCycle = false) → retainedFor c retained = some r
  | [], retained, after, split, _ => by
    match retained, split with
    | [], split => cases split
    | [x], split =>
      obtain ⟨rfl, -⟩ := List.cons.inj split
      rfl
    | x :: y :: more, split =>
      simp only [List.nil_append, List.cons_append, List.cons.injEq] at split
      obtain ⟨rfl, rfl, -⟩ := split
      exact if_pos begins
  | b :: before, retained, after, split, passed => by
    match retained, split with
    | [], split => exact absurd (congrArg List.length split) (by simp)
    | [x], split => exact absurd (congrArg List.length split) (by simp; omega)
    | x :: y :: more, split =>
      obtain ⟨-, split⟩ := List.cons.inj split
      have later : older c y.firstCycle = false := by
        refine passed y ?_
        cases before with
        | nil =>
          obtain ⟨rfl, -⟩ := List.cons.inj split
          exact List.mem_singleton.mpr rfl
        | cons z before =>
          obtain ⟨rfl, -⟩ := List.cons.inj split
          exact List.mem_cons_self ..
      have rest := retainedFor_eq c r next cfg begins before (y :: more) after split fun x hx =>
        passed x (List.mem_of_mem_tail hx)
      rw [retainedFor, later]
      exact rest

variable {st : Store} {c : Cycle}

theorem inForce_of_awaited {w : Awaiting} (h : st.awaiting = some w) (reached : sameOrNewer c w.config.firstCycle = true) :
    st.inForce c = some w.config := by
  simp [Store.inForce, h, reached]

/-- Before the awaiting change governs, the installed or a retained configuration is in force. -/
theorem inForce_of_not_awaited {cfg : Configuration} (installed : st.installed = some cfg)
    (h : ¬ ∃ w, st.awaiting = some w ∧ sameOrNewer c w.config.firstCycle = true) :
    st.inForce c = if st.retained ≠ [] ∧ older c cfg.firstCycle = true then retainedFor c st.retained else some cfg := by
  have settled : (if decide (st.retained ≠ []) && older c cfg.firstCycle then retainedFor c st.retained else some cfg) =
      if st.retained ≠ [] ∧ older c cfg.firstCycle = true then retainedFor c st.retained else some cfg := by
    simp only [Bool.and_eq_true, decide_eq_true_eq]
  rw [← settled]
  unfold Store.inForce
  rw [installed]
  cases awaiting : st.awaiting with
  | none => rfl
  | some w => exact if_neg fun reached => h ⟨w, awaiting, reached⟩

theorem inForce_of_empty (installed : st.installed = none) (awaiting : st.awaiting = none) : st.inForce c = none := by
  simp [Store.inForce, installed, awaiting]

theorem epochInForce_eq : st.epochInForce c = (match st.inForce c with | some cfg => cfg.epoch | none => 0) := by
  unfold Store.epochInForce
  cases st.inForce c <;> rfl

/-- From the installed configuration's first cycle on, it is in force when no change waits. -/
theorem inForce_of_installed {cfg : Configuration} (installed : st.installed = some cfg) (awaiting : st.awaiting = none)
    (h : sameOrNewer c cfg.firstCycle = true) : st.inForce c = some cfg := by
  rw [inForce_of_not_awaited installed (by simp [awaiting]), if_neg]
  rintro ⟨-, before⟩
  rw [not_older_of_sameOrNewer h] at before
  cases before

end Sys2Proof.Proofs.InForce

end

section
/-! Lemmas about the Configuration Store's reaction to a mark (R10, R139): the installation, and what a SCHEMA and a PARDON
activation do beyond it (R15, R51, R55, R105). -/

namespace Sys2Proof.Proofs.Activation

open Sys2Proof.Machine Sys2Proof.Proofs.CycleTimer Sys2Proof.Proofs.EventNotices Sys2Proof.Proofs.SoundParts
  Sys2Proof.Proofs.MembersSettle

variable {s : State} {o : MarkOffer} {rest : List MarkOffer} {w : Awaiting}

/-! ## The reaction (R10, R24) -/

/-- The part when the store has taken its mark and has installed the awaiting change, before the effects of the change's
kind (R10, R139). -/
def installedAt (s : State) (rest : List MarkOffer) (w : Awaiting) : State :=
  (({ s with timer := { s.timer with offers := rest } } : State).install w).dropCommitted

/-- The part after the activation, before its notices are placed. -/
def activatedAt (s : State) (rest : List MarkOffer) (w : Awaiting) : State :=
  ((installedAt s rest w).activateKind w).broadcast (.activated w.config.epoch w.config.firstCycle)

theorem takeMark_store (h : s.timer.offersNext .store o rest) : s.takeMark .store =
    (State.storeTakesMark { s with timer := { s.timer with offers := rest } } o.cycle).settleNotices := by
  obtain ⟨_, _, -, -, taker, -⟩ := id h
  rw [takeMark_of_offer s (takeOffer_of_offersNext h)]
  simp only [State.react, taker]

theorem exec_store (h : s.timer.offersNext .store o rest) (awaiting : s.store.awaiting = some w)
    (reached : sameOrNewer o.cycle w.config.firstCycle = true) :
    exec (.mark (.takes [.store])) s = .next (activatedAt s rest w).settleNotices := by
  have event : exec (.mark (.takes [.store])) s = .next (s.takeMark .store) := rfl
  rw [event, takeMark_store h]
  simp only [State.storeTakesMark, awaiting, if_pos reached]
  rfl

/-- A mark older than the activation cycle, or one that finds the slot empty, is only taken. -/
theorem exec_store_of_early (hs : Sound s) (h : s.timer.offersNext .store o rest)
    (early : ∀ w, s.store.awaiting = some w → sameOrNewer o.cycle w.config.firstCycle = false) :
    exec (.mark (.takes [.store])) s = .next { s with timer := { s.timer with offers := rest } } := by
  have event : exec (.mark (.takes [.store])) s = .next (s.takeMark .store) := rfl
  have still : State.storeTakesMark { s with timer := { s.timer with offers := rest } } o.cycle =
      { s with timer := { s.timer with offers := rest } } := by
    unfold State.storeTakesMark
    split
    · next w awaiting => exact if_neg (by rw [early w awaiting]; decide)
    · rfl
  rw [event, takeMark_store h, still]
  exact congrArg Host.Outcome.next (State.settleNotices_of_empty _ (show s.outbox = [] from outbox_eq_nil hs))

/-! ## The installation (R10, R139) -/

theorem installedAt_keeps : s.keepsAllBut (installedAt s rest w) [.store, .timer, .changes] := fun b hb => by
  cases b <;> simp_all [State.sameBlock, installedAt, State.install, State.dropCommitted]

theorem installedAt_timer : (installedAt s rest w).timer = { s.timer with offers := rest } := rfl

theorem installedAt_store : (installedAt s rest w).store = { s.store with
    installed := some w.config
    awaiting := none
    retained := if ∃ r ∈ s.window.rounds, older r.cycle w.config.firstCycle = true
      then s.store.retained ++ s.store.installed.toList else s.store.retained } := by
  simp only [installedAt, State.install, State.dropCommitted, List.any_eq_true]

theorem installedAt_outbox (hs : Sound s) : (installedAt s rest w).outbox = [] := outbox_eq_nil (s := s) hs

theorem installedAt_told (hs : Sound s) (n : Notice) :
    (installedAt s rest w).outbox ++ [⟨0, none, n⟩] = [⟨0, none, n⟩] := by
  rw [installedAt_outbox hs, List.nil_append]

theorem channelState_installedAt (ch : Channel) : (installedAt s rest w).channelState ch = s.channelState ch := rfl

theorem installedAt_votingSet : (installedAt s rest w).votingSet = s.votingSet := rfl

section Awaited

variable (hs : Sound s) (awaiting : s.store.awaiting = some w)
include hs awaiting

/-- While a change waits its entry is COMMITTED and no entry is PENDING, so that none is left at its activation (R129,
R139). -/
theorem installedAt_changes : (installedAt s rest w).changes = { s.changes with entries := [] } := by
  have none : (s.changes.entries.filter fun e => e.isPending) = [] := by
    rw [List.filter_eq_nil_iff]
    intro e he pending
    obtain ⟨sound, -, -⟩ := FoundingExpiry.changes_parts hs
    have entry := sound e he
    have state : e.state = .pending := eq_of_beq pending
    simp [State.entrySound, state, awaiting] at entry
  rw [← none]
  rfl

/-- A change waits only while a configuration is installed, which it follows (R5, R9). -/
theorem follows_installed : ∃ cfg, s.store.installed = some cfg ∧ w.follows cfg = true := by
  have sound := hs.store
  simp only [Store.sound, awaiting] at sound
  split at sound
  · simp at sound
  · next cfg installed =>
    simp only [Bool.and_eq_true] at sound
    exact ⟨cfg, installed, sound.2⟩

/-- An activation that carries the installed record over leaves the group state as it is (R51). -/
theorem derivedGroupState_installedAt (kind : w.kind ≠ .group) :
    (installedAt s rest w).derivedGroupState = s.groupState := by
  obtain ⟨cfg, installed, follows⟩ := follows_installed hs awaiting
  have record : w.config.record = cfg.record := by
    simp only [Awaiting.follows, Bool.and_eq_true] at follows
    obtain ⟨-, carried⟩ := follows
    cases hk : w.kind with
    | group => exact absurd hk kind
    | schema => simpa [hk] using carried
    | pardon x =>
      simp only [hk, Bool.and_eq_true, beq_iff_eq] at carried
      exact carried.1
  have derived : (installedAt s rest w).derivedGroupState =
      if w.config.record.itemQuorum ≤ s.votingSet.card then .active else .stalled := rfl
  rw [derived, groupState_eq hs, State.derivedGroupState, installed, record]

end Awaited

/-! ## SCHEMA (R10, R15) -/

theorem activateSchema_items (st : Store) (a : Cycle) (i : Nat) : (st.activateSchema a).items.getD i none =
    (st.items.getD i none).filter fun e => !(older e.acceptanceCycle a) := by
  refine (CloseDecision.map_getD_none rfl i).trans ?_
  cases st.items.getD i none with
  | none => rfl
  | some e => cases h : older e.acceptanceCycle a <;> simp [Option.filter, h]

theorem activatedAt_of_schema (hs : Sound s) (awaiting : s.store.awaiting = some w) (kind : w.kind = .schema) :
    activatedAt s rest w =
      { installedAt s rest w with
        store := (installedAt s rest w).store.activateSchema w.config.firstCycle
        outbox := [⟨0, none, .activated w.config.epoch w.config.firstCycle⟩] } := by
  have group := derivedGroupState_installedAt (rest := rest) hs awaiting (by rw [kind]; decide)
  have still : State.recomputeGroup
      { installedAt s rest w with store := (installedAt s rest w).store.activateSchema w.config.firstCycle } =
      { installedAt s rest w with store := (installedAt s rest w).store.activateSchema w.config.firstCycle } :=
    if_pos group
  simp only [activatedAt, State.activateKind, kind, still]
  rw [← installedAt_told (rest := rest) (w := w) hs]
  rfl

/-! ## PARDON (R55, R105) -/

theorem activatedAt_of_pardon (hs : Sound s) {x : Channel} (kind : w.kind = .pardon x) :
    activatedAt s rest w =
      { installedAt s rest w with
        members := s.members.set x { s.members.get x with holdoff := 0 }
        standing := s.standing.set x { s.standing.get x with score := 0 }
        outbox := [⟨0, none, .activated w.config.epoch w.config.firstCycle⟩] } := by
  simp only [activatedAt, State.activateKind, kind]
  rw [← installedAt_told (rest := rest) (w := w) hs]
  rfl

/-- The blocks that a SCHEMA or PARDON activation reaches (R10, R15, R55, R105, R139). -/
theorem activatedAt_keeps (hs : Sound s) (awaiting : s.store.awaiting = some w) (kind : w.kind ≠ .group) :
    s.keepsAllBut (activatedAt s rest w) [.store, .timer, .changes, .members, .standing, .outbox] := by
  have base : s.keepsAllBut (installedAt s rest w) [.store, .timer, .changes, .members, .standing, .outbox] :=
    installedAt_keeps.mono (by decide)
  refine base.trans fun b hb => ?_
  cases hk : w.kind with
  | group => exact absurd hk kind
  | schema =>
    rw [activatedAt_of_schema hs awaiting hk]
    cases b <;> simp_all [State.sameBlock]
  | pardon x =>
    rw [activatedAt_of_pardon hs hk]
    cases b <;> simp_all [State.sameBlock]

theorem activatedAt_store : (activatedAt s rest w).store =
    if w.kind = .schema then (installedAt s rest w).store.activateSchema w.config.firstCycle
    else (installedAt s rest w).store :=
  State.activate_store { s with timer := { s.timer with offers := rest } } w

section Other

variable (hs : Sound s) (awaiting : s.store.awaiting = some w) (kind : w.kind ≠ .group)
include hs awaiting kind

theorem activatedAt_outbox :
    (activatedAt s rest w).outbox = [⟨0, none, .activated w.config.epoch w.config.firstCycle⟩] := by
  cases hk : w.kind with
  | group => exact absurd hk kind
  | schema => rw [activatedAt_of_schema hs awaiting hk]
  | pardon x => rw [activatedAt_of_pardon hs hk]

/-- Only the pardoned channel's entry and standing are touched (R55, R105). -/
theorem activatedAt_own (x : Channel) :
    (activatedAt s rest w).members.get x =
        (if w.kind = .pardon x then { s.members.get x with holdoff := 0 } else s.members.get x)
      ∧ (activatedAt s rest w).standing.get x =
        (if w.kind = .pardon x then { s.standing.get x with score := 0 } else s.standing.get x) := by
  cases hk : w.kind with
  | group => exact absurd hk kind
  | schema =>
    rw [activatedAt_of_schema hs awaiting hk]
    exact ⟨rfl, rfl⟩
  | pardon o =>
    rw [activatedAt_of_pardon hs hk]
    by_cases hx : x = o
    · simp [hx]
    · simp [PerChannel.get_set, hx, Ne.symm hx]

/-- The notices are placed from a state whose timer, Change Table and group state are those of the installation. -/
theorem activatedAt_rest : (activatedAt s rest w).timer = { s.timer with offers := rest }
    ∧ (activatedAt s rest w).changes = { s.changes with entries := [] }
    ∧ (activatedAt s rest w).groupState = (activatedAt s rest w).derivedGroupState
    ∧ (activatedAt s rest w).part = s.part := by
  have changes := installedAt_changes (rest := rest) hs awaiting
  have group := derivedGroupState_installedAt (rest := rest) hs awaiting kind
  cases hk : w.kind with
  | group => exact absurd hk kind
  | schema =>
    rw [activatedAt_of_schema hs awaiting hk]
    exact ⟨rfl, changes, group.symm, rfl⟩
  | pardon x =>
    have voting : (activatedAt s rest w).votingSet = (installedAt s rest w).votingSet := votingSet_congr fun y => by
      rw [State.channelState, (activatedAt_own hs awaiting kind y).1]
      split <;> rfl
    have derived : (activatedAt s rest w).derivedGroupState = (installedAt s rest w).derivedGroupState :=
      derivedGroupState_congr (by rw [activatedAt_store, hk]; rfl) voting
    rw [derived, group, activatedAt_of_pardon hs hk]
    exact ⟨rfl, changes, rfl, rfl⟩

end Other

end Sys2Proof.Proofs.Activation

open Sys2Proof Sys2Proof.Machine Sys2Proof.Proofs.EventNotices Sys2Proof.Proofs.Activation

/-- Settles O15: beyond the installation, a SCHEMA activation reaches the item states alone (`activatedAt_of_schema`) and a
PARDON activation one channel's holdoff and score (`activatedAt_of_pardon`). -/
theorem schemaAndPardonActivationEffects : Obligations.SchemaAndPardonActivationEffects := by
  unfold Obligations.SchemaAndPardonActivationEffects
  intro s o rest w hs offered awaiting kind reached isPardoned
  have event := exec_store offered awaiting reached
  have store := activatedAt_store (s := s) (rest := rest) (w := w)
  have own := activatedAt_own (rest := rest) hs awaiting kind
  have outbox := activatedAt_outbox (rest := rest) hs awaiting kind
  have kept := activatedAt_keeps (rest := rest) hs awaiting kind
  have ports : (activatedAt s rest w).ports = s.ports := kept .ports (by decide)
  generalize activatedAt s rest w = c at event store own outbox kept ports
  have settled := c.settleNotices_keeps
  have settledStore : c.settleNotices.store = _ := Eq.trans (settled .store (by decide)) store
  refine ⟨c.settleNotices, event, ?_, fun i => ?_, ?_, ?_, fun x => ?_, fun x => ?_, fun x => ?_,
    keeps_settleNotices kept (outbox_eq_nil hs) (by decide) (by decide)⟩
  · rw [settledStore]
    split <;> rfl
  · rw [settledStore]
    by_cases schema : w.kind = .schema
    · rw [if_pos schema, activateSchema_items]
      simp [schema, installedAt_store]
    · rw [if_neg schema, Proofs.CloseDecision.filter_of_all fun e => by simp [schema]]
      rfl
  · rw [settledStore]
    split <;> rfl
  · rw [settledStore]
    split <;> rfl
  · rw [show c.settleNotices.members = c.members from settled .members (by decide)]
    exact (own x).1
  · rw [settleNotices_standing]
    exact (own x).2
  · rw [settleNotices_port_of_broadcast _ outbox, ports]

end

section
/-! Lemmas about a GROUP activation: the voters that it leaves out, the channels that its exclude_level claims, and what
follows in the other blocks (R46, R50, R54, R80, R105). -/

namespace Sys2Proof.Proofs.GroupActivation

open Sys2Proof.Machine Sys2Proof.Proofs.EventNotices Sys2Proof.Proofs.Offers Sys2Proof.Proofs.SoundParts
  Sys2Proof.Proofs.MembersSettle Sys2Proof.Proofs.Departures Sys2Proof.Proofs.Leaving Sys2Proof.Proofs.EachChannel
  Sys2Proof.Proofs.CloseSteps Sys2Proof.Proofs.CloseDecision Sys2Proof.Proofs.Activation

/-! ## Windows without some channels (R80) -/

theorem clearedBy_clearedBy (f g : Channel → Bool) (r : Round) :
    clearedBy g (clearedBy f r) = clearedBy (fun ch => f ch || g ch) r := by
  have arrival : (PerChannel.build fun ch => (clearedBy f r).arrival.get ch && !(g ch)) =
      PerChannel.build fun ch => r.arrival.get ch && !(f ch || g ch) := PerChannel.eq_of_get fun ch => by
    simp [clearedBy, Bool.and_assoc]
  rw [clearedBy, arrival]
  rfl

theorem windowWithout_windowWithout (f g : Channel → Bool) (w : Window) :
    windowWithout g (windowWithout f w) = windowWithout (fun ch => f ch || g ch) w := by
  have queues : (PerChannel.build fun ch => if g ch = true then [] else (windowWithout f w).queues.get ch) =
      PerChannel.build fun ch => if (f ch || g ch) = true then [] else w.queues.get ch :=
    PerChannel.eq_of_get fun ch => by
      cases hf : f ch <;> cases hg : g ch <;> simp [windowWithout, hf, hg]
  have rounds : (w.rounds.map (clearedBy f)).map (clearedBy g) = w.rounds.map (clearedBy fun ch => f ch || g ch) :=
    (List.map_map ..).trans (List.map_congr_left fun r _ => clearedBy_clearedBy f g r)
  rw [windowWithout, queues]
  exact congrArg (Window.mk _ · _) rounds

/-! ## The voters left out (R54) -/

/-- A voter that the new member set leaves out. -/
def leftOut (members : ChannelSet) (u : State) (ch : Channel) : Bool := (u.channelState ch).isVoter && !(members.get ch)

/-- The entry of a voter that has become OBSERVER (R54). -/
def asObserver (m : Member) : Member := { m with state := .observer, probationRun := 0 }

/-- The voters that the new member set leaves out, made OBSERVER one after another. -/
def demoteAll (members : ChannelSet) (u : State) (l : List Channel) : State := l.foldl (State.demote members) u

theorem demoteAll_keeps (members : ChannelSet) (u : State) (l : List Channel) :
    u.keepsAllBut (demoteAll members u l) [.timer, .members, .window, .changes, .part, .outbox] :=
  .foldl (fun u ch => u.demote_keeps members ch) _ u

section Demoted

variable {members : ChannelSet} {u : State} {ch : Channel} (noEntries : u.changes.entries = [])
include noEntries

/-- With no change entry, leaving the voter states empties the queue and nothing else (R50, R80). -/
theorem leaveVoters_of_no_entries {was : ChannelState} (hv : was.isVoter = true) :
    u.leaveVoters ch was = u.emptyQueue ch := by
  have departs (f : ChangeEntry → Bool) : (u.emptyQueue ch).depart ch f = u.emptyQueue ch := by
    rw [State.depart, State.emptyQueue_changes, noEntries]
    rfl
  simp only [State.leaveVoters, if_pos hv, departs, ite_self]

theorem demote_eq : State.demote members u ch =
    if leftOut members u ch then (u.modMember ch asObserver).emptyQueue ch else u := by
  unfold State.demote leftOut
  simp only
  split
  · next out =>
    rw [Bool.and_eq_true] at out
    exact leaveVoters_of_no_entries (u := u.modMember ch asObserver) noEntries out.1
  · rfl

theorem demote_others : (State.demote members u ch).changes = u.changes ∧ (State.demote members u ch).timer = u.timer
    ∧ (State.demote members u ch).part = u.part ∧ (State.demote members u ch).outbox = u.outbox := by
  rw [demote_eq noEntries]
  split <;> exact ⟨rfl, rfl, rfl, rfl⟩

theorem demote_members (x : Channel) : (State.demote members u ch).members.get x =
    if x = ch then (if leftOut members u ch then asObserver (u.members.get ch) else u.members.get ch)
    else u.members.get x := by
  rw [demote_eq noEntries]
  by_cases out : leftOut members u ch = true
  · rw [if_pos out, if_pos out, State.emptyQueue_members, State.modMember_members, PerChannel.get_set]
  · rw [if_neg out, if_neg out, ite_eq_right_iff.mpr]
    rintro rfl
    rfl

end Demoted

/-- All of a list of channels: the entries of those left out, the window without them, and the other blocks as they were. -/
theorem demoteAll_spec (members : ChannelSet) (l : List Channel) : ∀ u : State, l.Nodup → u.changes.entries = [] →
    (∀ x, (demoteAll members u l).members.get x =
        if x ∈ l ∧ leftOut members u x = true then asObserver (u.members.get x) else u.members.get x)
      ∧ (demoteAll members u l).window = windowWithout (fun x => decide (x ∈ l.filter (leftOut members u))) u.window
      ∧ (demoteAll members u l).changes = u.changes ∧ (demoteAll members u l).timer = u.timer
      ∧ (demoteAll members u l).part = u.part ∧ (demoteAll members u l).outbox = u.outbox := by
  induction l with
  | nil =>
    intro u _ _
    refine ⟨fun x => by rw [if_neg (by simp)]; rfl, ?_, rfl, rfl, rfl, rfl⟩
    have window : windowWithout (fun x => decide (x ∈ [])) u.window = u.window := by
      simpa using windowWithout_none u.window
    exact window.symm
  | cons ch l ih =>
    intro u nodup noEntries
    obtain ⟨fresh, nodup⟩ := List.nodup_cons.mp nodup
    obtain ⟨changes, timer, part, outbox⟩ := demote_others (members := members) (ch := ch) noEntries
    have own := demote_members (members := members) (ch := ch) noEntries
    have same (x : Channel) (hx : x ∈ l) : (State.demote members u ch).members.get x = u.members.get x := by
      rw [own, if_neg fun h : x = ch => fresh (h ▸ hx)]
    have sameOut (x : Channel) (hx : x ∈ l) : leftOut members (State.demote members u ch) x = leftOut members u x := by
      rw [leftOut, leftOut, State.channelState, State.channelState, same x hx]
    obtain ⟨members', window', changes', timer', part', outbox'⟩ :=
      ih (State.demote members u ch) nodup (by rw [changes, noEntries])
    refine ⟨fun x => ?_, ?_, changes'.trans changes, timer'.trans timer, part'.trans part, outbox'.trans outbox⟩
    · refine (members' x).trans ?_
      by_cases hx : x ∈ l
      · simp only [hx, true_and, List.mem_cons, or_true, sameOut x hx, same x hx]
      · rw [if_neg (fun h => hx h.1), own]
        by_cases hch : x = ch
        · subst hch
          simp
        · simp [hx, hch]
    · refine Eq.trans window' ?_
      rw [List.filter_congr sameOut, demote_eq noEntries]
      by_cases out : leftOut members u ch = true
      · rw [if_pos out, List.filter_cons_of_pos out]
        exact windowWithout_emptyQueue (u.modMember ch asObserver) ch _
      · rw [if_neg out, List.filter_cons_of_neg out]

end Sys2Proof.Proofs.GroupActivation

end

section
/-! Lemmas about a GROUP activation as a whole (R10, R46, R50, R51, R54, R80, R105). -/

namespace Sys2Proof.Proofs.GroupActivated

open Sys2Proof.Machine Sys2Proof.Proofs.EventNotices Sys2Proof.Proofs.Offers Sys2Proof.Proofs.SoundParts
  Sys2Proof.Proofs.MembersSettle Sys2Proof.Proofs.Leaving Sys2Proof.Proofs.EachChannel Sys2Proof.Proofs.CloseSteps
  Sys2Proof.Proofs.CloseDecision Sys2Proof.Proofs.Activation Sys2Proof.Proofs.GroupActivation

/-! ## The Change Table with no entry -/

theorem departuresOf_of_no_entries (l : List Channel) : ∀ c : ChangeTable, c.entries = [] → c.departuresOf l = [] := by
  induction l with
  | nil => exact fun _ _ => rfl
  | cons ch l ih =>
    intro c noEntries
    rw [ChangeTable.departuresOf, ChangeTable.departureNotices, ih (c.without ch) (by rw [ChangeTable.without, noEntries]; rfl),
      noEntries]
    rfl

theorem foldl_without_of_no_entries (l : List Channel) {c : ChangeTable} (noEntries : c.entries = []) :
    l.foldl ChangeTable.without c = c := by
  have same (ch : Channel) : c.without ch = c := by
    rw [ChangeTable.without, noEntries, List.filter_nil, List.map_nil, ← noEntries]
  induction l with
  | nil => rfl
  | cons ch l ih => rw [List.foldl_cons, same, ih]

/-! ## The channels claimed by the new exclude_level (R105) -/

/-- A channel of the new member set whose score stands at or above the new exclude_level. -/
def claimedBy (r : GroupRecord) (s : State) (ch : Channel) : Bool :=
  (s.channelState ch).isScored && r.members.get ch && decide (r.excludeLevel ≤ (s.standing.get ch).score)

theorem not_leftOut_of_claimed {r : GroupRecord} {s : State} {ch : Channel} (h : claimedBy r s ch = true) :
    leftOut r.members s ch = false := by
  simp only [claimedBy, Bool.and_eq_true] at h
  simp [leftOut, h.1.2]

/-! ## The members when all are demoted and excluded -/

variable {s : State} {rest : List MarkOffer} {w : Awaiting}

/-- The part when the voters left out are OBSERVER. -/
def demotedAt (s : State) (rest : List MarkOffer) (w : Awaiting) : State :=
  demoteAll w.config.record.members (installedAt s rest w) Channel.all

/-- The part when the claimed channels are EXCLUDED as well, before the rounds are checked and the group state follows. -/
def movedAt (s : State) (rest : List MarkOffer) (w : Awaiting) : State :=
  excludeAll (demotedAt s rest w) ((demotedAt s rest w).claimedByLevel w.config.record)

theorem activatedAt_of_group (kind : w.kind = .group) : activatedAt s rest w =
    (State.settleMembership (installedAt s rest w) (movedAt s rest w)).broadcast
      (.activated w.config.epoch w.config.firstCycle) := by
  simp only [activatedAt, State.activateKind, kind]
  rfl

/-- A channel that the activation takes out of the voter states. -/
def out (s : State) (r : GroupRecord) (ch : Channel) : Bool := leftOut r.members s ch || claimedBy r s ch

section Moved

variable (hs : Sound s) (awaiting : s.store.awaiting = some w)
include hs awaiting

theorem demotedAt_spec :
    (∀ x, (demotedAt s rest w).members.get x =
        if leftOut w.config.record.members s x then asObserver (s.members.get x) else s.members.get x)
      ∧ (demotedAt s rest w).window = windowWithout (leftOut w.config.record.members s) s.window
      ∧ (demotedAt s rest w).changes = { s.changes with entries := [] }
      ∧ (demotedAt s rest w).timer = { s.timer with offers := rest }
      ∧ (demotedAt s rest w).part = s.part ∧ (demotedAt s rest w).outbox = [] := by
  have changes := installedAt_changes (rest := rest) hs awaiting
  obtain ⟨members, window, changes', timer, part, outbox⟩ := demoteAll_spec w.config.record.members Channel.all
    (installedAt s rest w) nodup_all (by rw [changes])
  have all : (fun x => decide (x ∈ Channel.all.filter (leftOut w.config.record.members (installedAt s rest w)))) =
      leftOut w.config.record.members s := funext fun x => by
    rw [Bool.eq_iff_iff, decide_eq_true_eq, List.mem_filter]
    exact ⟨fun h => h.2, fun h => ⟨x.mem_all, h⟩⟩
  rw [all] at window
  refine ⟨fun x => (members x).trans ?_, window, changes'.trans changes, timer, part,
    outbox.trans (installedAt_outbox hs)⟩
  simp only [x.mem_all, true_and]
  rfl

theorem claims_eq :
    (demotedAt s rest w).claimedByLevel w.config.record = Channel.all.filter (claimedBy w.config.record s) := by
  obtain ⟨members, -⟩ := demotedAt_spec (rest := rest) hs awaiting
  have standing : (demotedAt s rest w).standing = s.standing :=
    Eq.trans (demoteAll_keeps _ _ _ .standing (by decide)) (installedAt_keeps .standing (by decide))
  refine List.filter_congr fun x _ => ?_
  rw [claimedBy, State.channelState, members, standing]
  cases out : leftOut w.config.record.members s x with
  | false => rfl
  | true =>
    have notMember : w.config.record.members.get x = false := by
      simp only [leftOut, Bool.and_eq_true, Bool.not_eq_true'] at out
      exact out.2
    simp [notMember]

/-- Each channel's entry and standing when all have moved. -/
theorem movedAt_own (x : Channel) :
    (movedAt s rest w).members.get x =
        (if claimedBy w.config.record s x then
          excludedMember .score w.config.record.holdoffCycles (s.members.get x)
        else if leftOut w.config.record.members s x then asObserver (s.members.get x) else s.members.get x)
      ∧ (movedAt s rest w).standing.get x =
        (if claimedBy w.config.record s x then
          { s.standing.get x with counters := (s.standing.get x).counters.bump .exclusions }
        else s.standing.get x) := by
  obtain ⟨members, -⟩ := demotedAt_spec (rest := rest) hs awaiting
  have standing : (demotedAt s rest w).standing = s.standing :=
    Eq.trans (demoteAll_keeps _ _ _ .standing (by decide)) (installedAt_keeps .standing (by decide))
  have holdoff : (demotedAt s rest w).currentHoldoff = w.config.record.holdoffCycles := by
    rw [State.currentHoldoff, show (demotedAt s rest w).store = _ from demoteAll_keeps _ _ _ .store (by decide)]
    rfl
  have own := excludeAll_own (s := demotedAt s rest w) (l := (demotedAt s rest w).claimedByLevel w.config.record)
    (by rw [claims_eq hs awaiting]; exact nodup_all.filter _) x
  have listed : x ∈ (demotedAt s rest w).claimedByLevel w.config.record ↔ claimedBy w.config.record s x = true := by
    rw [claims_eq hs awaiting, List.mem_filter]
    exact and_iff_right x.mem_all
  rw [holdoff, members, standing] at own
  simp only [listed] at own
  by_cases claimed : claimedBy w.config.record s x = true
  · rw [if_pos claimed, not_leftOut_of_claimed claimed] at own
    rw [if_pos claimed, if_pos claimed]
    exact ⟨congrArg Prod.fst own, congrArg Prod.snd own⟩
  · rw [if_neg claimed] at own
    rw [if_neg claimed, if_neg claimed]
    exact ⟨congrArg Prod.fst own, congrArg Prod.snd own⟩

theorem not_voting_of_out {x : Channel} (h : out s w.config.record x = true) :
    (movedAt s rest w).channelState x ≠ .voting := by
  rw [State.channelState, (movedAt_own hs awaiting x).1]
  split
  · exact excludedMember_not_voting _ _ _
  · next unclaimed =>
    rw [out, Bool.or_eq_true] at h
    rw [if_pos (h.resolve_right unclaimed)]
    exact fun h => nomatch h

/-- The blocks that the moves reach through the Round Window and the Change Table (R50, R80, R141): with no entry in the
table, no other block takes part. -/
theorem movedAt_blocks :
    (movedAt s rest w).window = windowWithout (out s w.config.record) s.window
      ∧ (movedAt s rest w).changes = { s.changes with entries := [] }
      ∧ (movedAt s rest w).timer = { s.timer with offers := rest }
      ∧ (movedAt s rest w).part = s.part
      ∧ ∃ told, (movedAt s rest w).outbox = toAll told
        ∧ told.Perm ((Channel.all.filter (claimedBy w.config.record s)).map fun x => .excluded x .score) := by
  obtain ⟨cfg, installed, -⟩ := follows_installed hs awaiting
  obtain ⟨members, window, changes, timer, part, outbox⟩ := demotedAt_spec (rest := rest) hs awaiting
  have noEntries : (demotedAt s rest w).changes.entries = [] := by rw [changes]
  have tickets : ((demotedAt s rest w).changes.entries.map (·.ticket)).Nodup := by rw [noEntries]; exact .nil
  have noFound : ∀ e ∈ (demotedAt s rest w).changes.entries, e.isFound = false := by
    rw [noEntries]
    exact List.forall_mem_nil _
  have noExpiries : (demotedAt s rest w).timer.foundingExpiries = [] := by
    rw [timer]
    exact foundingExpiries_of_installed hs installed
  have claims := claims_eq (rest := rest) hs awaiting
  have voters : ∀ ch ∈ Channel.all.filter (claimedBy w.config.record s),
      ((demotedAt s rest w).channelState ch).isVoter = true := fun ch hch => by
    have claimed := (List.mem_filter.mp hch).2
    rw [State.channelState, members, not_leftOut_of_claimed claimed]
    simp only [claimedBy, Bool.and_eq_true] at claimed
    exact isVoter_of_isScored claimed.1.1
  have nodup := nodup_all.filter (claimedBy w.config.record s)
  obtain ⟨window', timer', changes', -, part'⟩ := excludeAll_blocks _ (demotedAt s rest w) nodup tickets noFound noExpiries voters
  obtain ⟨told, outbox', perm⟩ := excludeAll_told _ (demotedAt s rest w) nodup tickets noFound voters
  rw [foldl_without_of_no_entries _ noEntries] at changes'
  rw [departuresOf_of_no_entries _ _ noEntries, List.append_nil] at perm
  rw [changes', Nat.sub_self] at part'
  rw [outbox, List.nil_append] at outbox'
  rw [← claims] at window' timer' changes' part' outbox'
  refine ⟨window'.trans ?_, changes'.trans changes, timer'.trans timer, part'.trans part, told, outbox', perm⟩
  have claimedSet : (fun x => decide (x ∈ Channel.all.filter (claimedBy w.config.record s))) =
      claimedBy w.config.record s := funext fun x => by
    rw [Bool.eq_iff_iff, decide_eq_true_eq, List.mem_filter]
    exact ⟨fun h => h.2, fun h => ⟨x.mem_all, h⟩⟩
  rw [claims, claimedSet, window, windowWithout_windowWithout]
  rfl

end Moved

/-! ## The whole activation -/

section Whole

variable (hs : Sound s) (awaiting : s.store.awaiting = some w) (kind : w.kind = .group)

include kind in
theorem movedAt_keeps : (movedAt s rest w).keepsAllBut (activatedAt s rest w) [.window, .groupState, .outbox] := by
  rw [activatedAt_of_group kind]
  exact (State.settleMembership_keeps _ _).trans ((State.broadcast_keeps _ _).mono (by decide))

include kind in
theorem activatedAt_votingSet : (activatedAt s rest w).votingSet = (movedAt s rest w).votingSet :=
  votingSet_congr fun x => by
    rw [State.channelState, State.channelState,
      show (activatedAt s rest w).members = _ from movedAt_keeps kind .members (by decide)]

include kind in
theorem activatedAt_groupState : (activatedAt s rest w).groupState = (activatedAt s rest w).derivedGroupState := by
  have derived : (activatedAt s rest w).derivedGroupState = (movedAt s rest w).derivedGroupState :=
    derivedGroupState_congr (congrArg Store.installed (movedAt_keeps kind .store (by decide))) (activatedAt_votingSet kind)
  rw [derived, activatedAt_of_group kind, settleMembership_eq]
  rfl

include hs awaiting kind

/-- The rounds that the VOTING set completes are sealed (R50, R70). -/
theorem activatedAt_window : (activatedAt s rest w).window.rounds =
      (s.window.rounds.map fun r => Round.checked (activatedAt s rest w).votingSet (clearedBy (out s w.config.record) r))
    ∧ (activatedAt s rest w).window.nextRound = s.window.nextRound
    ∧ ∀ x, (activatedAt s rest w).window.queues.get x = if out s w.config.record x then [] else s.window.queues.get x := by
  obtain ⟨window, -⟩ := movedAt_blocks (rest := rest) hs awaiting
  have notVoting (x : Channel) (h : out s w.config.record x = true) : (movedAt s rest w).votingSet.get x = false := by
    rw [votingSet_get, beq_eq_false_iff_ne]
    exact not_voting_of_out hs awaiting h
  have settled := settleMembership_rounds (before := installedAt s rest w) (s := movedAt s rest w) fun same r hr => by
    rw [window, windowWithout, List.mem_map] at hr
    obtain ⟨x, hx, rfl⟩ := hr
    refine checked_clearedBy notVoting ?_
    rw [same]
    exact checked_eq_self hs hx
  rw [activatedAt_votingSet kind, activatedAt_of_group kind, State.broadcast_window]
  refine ⟨?_, ?_, fun x => ?_⟩
  · rw [settled, window, windowWithout, List.map_map]
    rfl
  · rw [settleMembership_eq]
    change (movedAt s rest w).window.nextRound = s.window.nextRound
    rw [window]
    rfl
  · rw [settleMembership_eq]
    exact (congrArg (fun v : Window => v.queues.get x) window).trans (PerChannel.get_build _ x)

/-- The notices of the activation, in some order. -/
theorem activatedAt_notices : ∃ told, (activatedAt s rest w).outbox = toAll told
    ∧ told.Perm ((Channel.all.filter (claimedBy w.config.record s)).map (fun x => .excluded x .score)
      ++ .activated w.config.epoch w.config.firstCycle :: s.groupNotice (activatedAt s rest w)) := by
  obtain ⟨-, -, -, -, told, outbox, perm⟩ := movedAt_blocks (rest := rest) hs awaiting
  have before : (movedAt s rest w).groupState = s.groupState :=
    Eq.trans (excludeAll_keeps _ _ .groupState (by decide)) (demoteAll_keeps _ _ _ .groupState (by decide))
  have now : (activatedAt s rest w).groupState = (movedAt s rest w).derivedGroupState := by
    rw [activatedAt_of_group kind, settleMembership_eq]
    rfl
  have change : groupChange (movedAt s rest w) = s.groupNotice (activatedAt s rest w) := by
    rw [groupChange, State.groupNotice, now, before]
  refine ⟨told ++ s.groupNotice (activatedAt s rest w) ++ [.activated w.config.epoch w.config.firstCycle], ?_, ?_⟩
  · rw [← change, toAll_append, toAll_append, ← outbox, activatedAt_of_group kind, settleMembership_eq]
    rfl
  · rw [List.append_assoc]
    exact perm.append (List.perm_append_singleton _ _)

end Whole

/-- What the activation leaves of the timer, the Change Table and the group state, of every kind (R51, R139). -/
theorem activatedAt_spec (hs : Sound s) (awaiting : s.store.awaiting = some w) :
    (activatedAt s rest w).timer = { s.timer with offers := rest }
      ∧ (activatedAt s rest w).changes = { s.changes with entries := [] }
      ∧ (activatedAt s rest w).groupState = (activatedAt s rest w).derivedGroupState
      ∧ s.keepsAllBut (activatedAt s rest w)
        [.store, .timer, .members, .groupState, .window, .standing, .changes, .outbox] := by
  by_cases kind : w.kind = .group
  · obtain ⟨-, changes, timer, part, -⟩ := movedAt_blocks (rest := rest) hs awaiting
    have moved := movedAt_keeps (s := s) (rest := rest) kind
    refine ⟨Eq.trans (moved .timer (by decide)) timer, Eq.trans (moved .changes (by decide)) changes,
      activatedAt_groupState kind, Commit.keepsAllBut_drop (b := .part) ?_ (Eq.trans (moved .part (by decide)) part)⟩
    exact (installedAt_keeps.mono (by decide)).trans <| ((demoteAll_keeps _ _ _).mono (by decide)).trans <|
      ((excludeAll_keeps _ _).mono (by decide)).trans (moved.mono (by decide))
  · obtain ⟨timer, changes, group, -⟩ := activatedAt_rest (rest := rest) hs awaiting kind
    exact ⟨timer, changes, group, (activatedAt_keeps hs awaiting kind).mono (by decide)⟩

end Sys2Proof.Proofs.GroupActivated

open Sys2Proof Sys2Proof.Machine Sys2Proof.Proofs.EventNotices Sys2Proof.Proofs.Offers Sys2Proof.Proofs.MembersSettle
  Sys2Proof.Proofs.Leaving Sys2Proof.Proofs.CloseDecision Sys2Proof.Proofs.InForce Sys2Proof.Proofs.Activation Sys2Proof.Proofs.GroupActivation Sys2Proof.Proofs.GroupActivated

/-- Settles O16: the voters left out are demoted (`demoteAll_spec`), the claimed channels excluded (`movedAt_own`), and the
window and the notices follow (`activatedAt_window`, `activatedAt_notices`). -/
theorem groupActivationDemotesAndClaims : Obligations.GroupActivationDemotesAndClaims := by
  unfold Obligations.GroupActivationDemotesAndClaims
  intro s o rest w hs offered awaiting kind reached demoted claimed
  have event := exec_store offered awaiting reached
  have demoted_eq : leftOut w.config.record.members s = demoted := funext fun x => by
    have voter (st : ChannelState) : st.isVoter = [ChannelState.candidate, .probation, .voting].contains st := by
      cases st <;> rfl
    rw [leftOut, voter]
  have claimed_eq : claimedBy w.config.record s = claimed := funext fun x => by
    have scored (st : ChannelState) : st.isScored = [ChannelState.probation, .voting].contains st := by cases st <;> rfl
    rw [claimedBy, scored]
  have own := movedAt_own (rest := rest) hs awaiting
  have moved := movedAt_keeps (s := s) (rest := rest) kind
  obtain ⟨rounds, nextRound, queues⟩ := activatedAt_window (rest := rest) hs awaiting kind
  obtain ⟨told, outbox, perm⟩ := activatedAt_notices (rest := rest) hs awaiting kind
  obtain ⟨-, -, -, kept⟩ := activatedAt_spec (rest := rest) hs awaiting
  have apart (x : Channel) (h : claimed x = true) : demoted x = false := by
    rw [← claimed_eq] at h
    rw [← demoted_eq]
    exact not_leftOut_of_claimed h
  have out_eq : out s w.config.record = fun x => demoted x || claimed x := funext fun x => by
    rw [out, demoted_eq, claimed_eq]
  simp only [demoted_eq, claimed_eq] at own
  rw [out_eq] at rounds queues
  rw [claimed_eq] at perm
  have settled := (activatedAt s rest w).settleNotices_keeps
  have members : (activatedAt s rest w).settleNotices.members = (movedAt s rest w).members :=
    Eq.trans (settled .members (by decide)) (moved .members (by decide))
  have standing : (activatedAt s rest w).settleNotices.standing = (movedAt s rest w).standing :=
    Eq.trans (settled .standing (by decide)) (moved .standing (by decide))
  have window : (activatedAt s rest w).settleNotices.window = (activatedAt s rest w).window := settled .window (by decide)
  have voting : (activatedAt s rest w).settleNotices.votingSet = (activatedAt s rest w).votingSet :=
    votingSet_congr fun x => by
      rw [State.channelState, State.channelState,
        show (activatedAt s rest w).settleNotices.members = _ from settled .members (by decide)]
  refine ⟨(activatedAt s rest w).settleNotices, event, fun ch => ?_, ?_, ?_, fun x => ?_⟩
  · rw [members, standing, window, queues, (own ch).1, (own ch).2]
    refine ⟨fun h => ?_, fun h => ?_, fun hd hc => ?_⟩
    · have unclaimed : claimed ch = false := Bool.eq_false_iff.mpr fun hc => by
        rw [apart ch hc] at h
        cases h
      simp [h, unclaimed, asObserver]
    · simp [h, apart ch h, excludedMember, Counters.bump, saturate16]
    · simp [hd, hc]
  · rw [window, voting, rounds]
    refine List.map_congr_left fun r _ => congrArg (Round.checked _) ?_
    simp only [clearedBy, Bool.not_or, Bool.and_assoc]
  · rw [window, nextRound]
  · have offers := settleNotices_toAll outbox x
    rw [show (activatedAt s rest w).ports = s.ports from kept .ports (by decide)] at offers
    have group : s.groupNotice (activatedAt s rest w).settleNotices = s.groupNotice (activatedAt s rest w) := by
      rw [State.groupNotice, State.groupNotice,
        show (activatedAt s rest w).settleNotices.groupState = _ from settled .groupState (by decide)]
    rw [group]
    exact offeredAll_perm offers perm

/-- Settles O14: the order is `older_iff`, the configuration in force `inForce_of_not_awaited` and `retainedFor_eq`, and the
activation the installation (`installedAt_store`) with what its kind leaves of the other blocks (`activatedAt_spec`). -/
theorem activationInstallsTheAwaitingChange : Obligations.ActivationInstallsTheAwaitingChange := by
  unfold Obligations.ActivationInstallsTheAwaitingChange
  refine ⟨fun c d => ⟨older_iff c d, sameOrNewer_iff c d⟩, fun st c => ?_, fun s o rest hs offered => ⟨fun w awaiting reached => ?_,
    exec_store_of_early hs offered⟩⟩
  · intro isAwaited
    refine ⟨inForce_of_empty, fun cfg installed => ⟨fun w => inForce_of_awaited, fun early settled => ?_, ?_⟩, epochInForce_eq⟩
    · rw [inForce_of_not_awaited installed early, if_neg]
      rintro ⟨present, before⟩
      exact settled.elim present fun h => Bool.noConfusion (h.symm.trans before)
    · intro before r next after split isOlder begins passed
      have found := retainedFor_eq c r next cfg begins before st.retained after split passed
      refine ⟨found, fun early => ?_⟩
      have present : st.retained ≠ [] := fun none => by rw [none] at found; cases found
      rw [inForce_of_not_awaited installed early, if_pos ⟨present, isOlder⟩, found]
  · have event := exec_store offered awaiting reached
    have store := activatedAt_store (s := s) (rest := rest) (w := w)
    obtain ⟨timer, changes, group, kept⟩ := activatedAt_spec (rest := rest) hs awaiting
    generalize activatedAt s rest w = c at event store timer changes group kept
    have settled := c.settleNotices_keeps
    have settledStore : c.settleNotices.store = c.store := settled .store (by decide)
    have derived : c.settleNotices.derivedGroupState = c.derivedGroupState :=
      derivedGroupState_congr (by rw [settledStore]) <| votingSet_congr fun x => by
        rw [State.channelState, State.channelState, show c.settleNotices.members = _ from settled .members (by decide)]
    have installed : c.store.installed = some w.config ∧ c.store.awaiting = none := by
      rw [store]
      split <;> exact ⟨rfl, rfl⟩
    refine ⟨c.settleNotices, event, ?_, ?_, ?_, fun kind => ?_, ?_, ?_, fun a governed => ⟨inForce_of_awaited awaiting governed, ?_⟩,
      ?_, ?_, ?_, (settleNotices_timer c).trans timer, keeps_settleNotices kept (outbox_eq_nil hs) (by decide) (by decide)⟩
    · rw [settledStore, installed.1]
    · rw [settledStore, installed.2]
    · rw [settledStore, store, installedAt_store]
      split <;> rfl
    · rw [settledStore, store, if_neg kind]
      exact ⟨rfl, rfl⟩
    · rw [settledStore, store]
      split <;> rfl
    · rw [settledStore, store]
      split <;> rfl
    · rw [settledStore]
      exact inForce_of_installed installed.1 installed.2 governed
    · rw [settleNotices_changes, changes]
    · rw [settleNotices_changes, changes]
    · rw [derived, ← group]
      exact settled .groupState (by decide)

end

section
/-! Lemmas about what a close leaves in the Configuration Store: the item states that it writes and the retained
configurations that it keeps (R11, R13 to R15, R91). -/

namespace Sys2Proof.Proofs.CloseStore

open Sys2Proof.Machine Sys2Proof.Proofs.CloseDecides Sys2Proof.Proofs.CloseSteps Sys2Proof.Proofs.CloseWhole
  Sys2Proof.Proofs.CloseDecision

/-! ## The item states (R13, R14) -/

theorem saturate_eq (e : ItemState) (c : Cycle) : e.saturate c =
    { e with saturated := e.saturated || decide (255 ≤ (c - e.acceptanceCycle).toNat) } := by
  rw [ItemState.saturate, ItemState.distance]
  by_cases h : 255 ≤ (c - e.acceptanceCycle).toNat
  · rw [if_pos h, decide_eq_true h, Bool.or_true]
  · rw [if_neg h, decide_eq_false h, Bool.or_false]

theorem writeItems_getD_of_accepted (c : Cycle) (v : Word16) :
    ∀ (votes : List ItemVote) (items : List (Option ItemState)) (i : Nat), i < items.length →
      votes[i]?.bind (·.decided) = some v → (writeItems c votes items).getD i none = some ⟨v, c, false⟩
  | [], _, _, _, h => by cases h
  | _ :: _, [], _, within, _ => by cases within
  | vote :: votes, e :: items, 0, _, h => by
    have decided : vote.decided = some v := h
    simp [writeItems, decided]
  | _ :: votes, _ :: items, i + 1, within, h =>
    writeItems_getD_of_accepted c v votes items i (Nat.lt_of_succ_lt_succ within) h

theorem writeItems_getD_of_not_accepted (c : Cycle) :
    ∀ (votes : List ItemVote) (items : List (Option ItemState)) (i : Nat), votes[i]?.bind (·.decided) = none →
      (writeItems c votes items).getD i none = (items.getD i none).map (·.saturate c)
  | [], [], _, _ => rfl
  | _ :: _, [], _, _ => rfl
  | [], _ :: _, 0, _ => rfl
  | [], _ :: items, i + 1, _ => writeItems_getD_of_not_accepted c [] items i rfl
  | vote :: _, _ :: _, 0, h => by
    have undecided : vote.decided = none := h
    simp [writeItems, undecided]
  | _ :: votes, _ :: items, i + 1, h => writeItems_getD_of_not_accepted c votes items i h

section Written

variable (s : State) (r : Round) (cfg : Configuration)

/-- The decided value that the vote of item `i` carries is the one of the round (R84, R85, R87). -/
theorem decided_votesAt (i : Nat) : (votesAt s r cfg)[i]?.bind (·.decided) = s.decidedIn r cfg i := by
  rw [votesAt_getElem?]
  cases h : cfg.schema[i]? with
  | some item => rfl
  | none => simp [State.decidedIn, h]

/-- An item is accepted exactly when it has a decided value (R83). -/
theorem outcome_itemIn (i : Nat) (item : SchemaItem) :
    (s.itemIn r cfg i item).outcome = .accepted ↔ (s.decidedIn r cfg i).isSome = true := by
  unfold State.itemIn
  cases s.decidedIn r cfg i with
  | some v => simp
  | none =>
    refine iff_of_false (fun h => ?_) nofun
    dsimp only at h
    split at h <;> cases h

theorem value_itemIn {i : Nat} {v : Word16} (item : SchemaItem) (h : s.decidedIn r cfg i = some v) :
    (s.itemIn r cfg i item).value = v := by
  rw [State.itemIn, h]

end Written

/-! ## The store after a close (R11, R13 to R15, R91) -/

section Store

variable {st : Store} {c : Cycle} {votes : List ItemVote}

/-- The close of a round older than the schema boundary leaves the table and the boundary as they are (R15). -/
theorem written_of_older {b : Cycle} (h : st.schemaBoundary = some b) (before : older c b = true) :
    (st.passBoundary c).writeClose c votes = st := by
  have passed : st.passBoundary c = st := by simp [Store.passBoundary, h, before]
  rw [passed, Store.writeClose, if_pos (by simp [h])]

/-- Any other close clears the boundary and writes the table (R13, R15). -/
theorem written_of_not_older (h : ∀ b, st.schemaBoundary = some b → older c b = false) :
    (st.passBoundary c).writeClose c votes = { st with schemaBoundary := none, items := writeItems c votes st.items } := by
  have passed : st.passBoundary c = { st with schemaBoundary := none } := by
    unfold Store.passBoundary
    split
    · next b boundary => exact if_neg (by rw [h b boundary]; decide)
    · next boundary => rw [← boundary]
  rw [passed]
  rfl

/-- Beyond the table and the boundary, a close changes nothing before the retained configurations are gone through. -/
theorem written_kept : ((st.passBoundary c).writeClose c votes).retained = st.retained
    ∧ ((st.passBoundary c).writeClose c votes).installed = st.installed
    ∧ ((st.passBoundary c).writeClose c votes).awaiting = st.awaiting
    ∧ ((st.passBoundary c).writeClose c votes).restartCause = st.restartCause
    ∧ ((st.passBoundary c).writeClose c votes).retainedNextCycle = st.retainedNextCycle := by
  by_cases h : ∃ b, st.schemaBoundary = some b ∧ older c b = true
  · obtain ⟨b, boundary, before⟩ := h
    rw [written_of_older boundary before]
    exact ⟨rfl, rfl, rfl, rfl, rfl⟩
  · rw [written_of_not_older fun b boundary => Bool.eq_false_iff.mpr fun before => h ⟨b, boundary, before⟩]
    exact ⟨rfl, rfl, rfl, rfl, rfl⟩

theorem discardRetained_eq {cfg : Configuration} (installed : st.installed = some cfg) (rounds : List Round) :
    st.discardRetained rounds = { st with
      retained := st.retained.filter fun r =>
        rounds.any fun x => older x.cycle cfg.firstCycle && retainedFor x.cycle st.retained == some r } := by
  simp only [Store.discardRetained]
  split
  · next cfg' installed' =>
    obtain rfl : cfg' = cfg := Option.some.inj (installed'.symm.trans installed)
    rfl
  · next none => rw [none] at installed; cases installed

end Store

variable {s : State} {r : Round} {cfg installed : Configuration} {res : RoundResult} {cause : CloseCause}

/-- The store of a close is the one written, without the retained configurations that serve no present round (R11). -/
theorem closedAt_store (hi : s.store.installed = some installed) : (closedAt s r res).store =
    { (s.store.passBoundary r.cycle).writeClose r.cycle res.votes with
      retained := s.store.retained.filter fun x => (closedAt s r res).window.rounds.any fun y =>
        older y.cycle installed.firstCycle && retainedFor y.cycle s.store.retained == some x } := by
  have discarded : (closedAt s r res).store = (settledAt s r res).store.discardRetained (settledAt s r res).window.rounds :=
    State.settleNotices_keeps _ .store (by decide)
  have rounds : (closedAt s r res).window = (settledAt s r res).window := closedAt_keeps .window (by decide)
  have written : (settledAt s r res).store = (s.store.passBoundary r.cycle).writeClose r.cycle res.votes :=
    Eq.trans (settledAt_keeps s r res .store (by decide)) <| Eq.trans (movedAt_keeps s r res .store (by decide)) <|
      producedAt_keeps_recorded s r res .store (by decide)
  obtain ⟨retained, kept, -⟩ := written_kept (st := s.store) (c := r.cycle) (votes := res.votes)
  rw [discarded, written, discardRetained_eq (kept.trans hi), retained, ← rounds]

theorem checked_cycle (v : ChannelSet) (x : Round) : (Round.checked v x).cycle = x.cycle := by
  unfold Round.checked
  split <;> rfl

/-- Which retained configurations are in force for a round turns on the cycles of the rounds, which are those of the rounds
that stay. -/
theorem any_closedAt_rounds (hs : Sound s) (hi : s.store.installed = some installed) (hres : res = resultOf s r cfg cause)
    {rest : List Round} (hr : s.window.rounds = r :: rest) (p : Cycle → Bool) :
    ((closedAt s r res).window.rounds.any fun y => p y.cycle) = rest.any fun y => p y.cycle := by
  obtain ⟨rounds, -⟩ := closedAt_window hs hi hres hr
  rw [rounds, List.any_map]
  exact congrArg rest.any (funext fun y => congrArg p (checked_cycle _ _))

/-- The items of the record, as the output shows them (R121). -/
theorem recordAt_items (hres : res = resultOf s r cfg cause) (i : Nat) : (recordAt s r res).items[i]? =
    cfg.schema[i]?.map fun item =>
      if (closedAt s r res).output.state = .safe then { s.itemIn r cfg i item with value := item.safeValue }
      else s.itemIn r cfg i item := by
  have items : (recordAt s r res).items = shownItems res (closedAt s r res).output.state := by
    rw [closedAt_output]
    rfl
  rw [items, hres]
  cases h : cfg.schema[i]? with
  | some item => exact shownItems_getElem? s r cfg cause _ h
  | none =>
    rw [Option.map_none, List.getElem?_eq_none_iff, shownItems_length]
    exact List.getElem?_eq_none_iff.mp h

end Sys2Proof.Proofs.CloseStore

open Sys2Proof Sys2Proof.Machine Sys2Proof.Proofs.CloseDecides Sys2Proof.Proofs.CloseSteps Sys2Proof.Proofs.CloseWhole
  Sys2Proof.Proofs.CloseDecision Sys2Proof.Proofs.CloseStore

/-- Settles O52: the table is written where the boundary allows it (`written_of_older`, `written_of_not_older`), item by item
(`writeItems_getD_of_accepted`, `writeItems_getD_of_not_accepted`), and the retained configurations are those in force for a
round that stays (`closedAt_store`). -/
theorem closeWritesAcceptedItems : Obligations.CloseWritesAcceptedItems := by
  unfold Obligations.CloseWritesAcceptedItems
  intro s r rest cfg installed hs hr hsealed hf hi
  obtain ⟨cause, event⟩ := exec_close hr hsealed hf
  obtain ⟨res, hres⟩ : ∃ res, res = resultOf s r cfg cause := ⟨_, rfl⟩
  rw [← hres] at event
  have votes : res.votes = votesAt s r cfg := by rw [hres]; rfl
  have store := closedAt_store (r := r) (res := res) hi
  obtain ⟨-, installedKept, awaiting, restartCause, nextCycle⟩ :=
    written_kept (st := s.store) (c := r.cycle) (votes := res.votes)
  have shown := recordAt_items hres
  have present := any_closedAt_rounds hs hi hres hr
  have full : s.store.items.length = 32 := by
    have bounded := hs.bounded
    simp only [State.bounded, Bool.and_eq_true, beq_iff_eq] at bounded
    exact bounded.2
  have head := closedAt_head (s := s) (r := r) (res := res)
  generalize closedAt s r res = t at event store shown present head
  refine ⟨t, recordAt s r res, event, head, fun b boundary before => ?_, fun h => ?_, ?_, fun c hc => ?_, ?_, ?_, ?_, ?_⟩
  · rw [store, written_of_older boundary before]
    exact ⟨rfl, boundary⟩
  · rw [store, written_of_not_older h, votes]
    refine ⟨rfl, fun i hi => ⟨fun x hx accepted => ?_, fun unaccepted => ?_⟩⟩
    · rw [shown, Option.map_eq_some_iff] at hx
      obtain ⟨item, -, rfl⟩ := hx
      have decided : (s.decidedIn r cfg i).isSome = true := by
        rw [← outcome_itemIn s r cfg i item, ← accepted]
        split <;> rfl
      obtain ⟨v, hv⟩ := Option.isSome_iff_exists.mp decided
      refine ⟨v, ?_, hv, fun live => ?_⟩
      · exact writeItems_getD_of_accepted _ _ _ _ _ (by omega) ((decided_votesAt s r cfg i).trans hv)
      · rw [if_neg live, value_itemIn s r cfg item hv]
    · have undecided : s.decidedIn r cfg i = none := by
        cases hitem : cfg.schema[i]? with
        | none => simp [State.decidedIn, hitem]
        | some item =>
          refine Option.not_isSome_iff_eq_none.mp fun decided => ?_
          refine unaccepted _ (by rw [shown, hitem]; rfl) ?_
          have accepted := (outcome_itemIn s r cfg i item).mpr decided
          split <;> exact accepted
      refine Eq.trans (writeItems_getD_of_not_accepted _ _ _ _ ((decided_votesAt s r cfg i).trans undecided)) ?_
      simp only [saturate_eq]
  · rw [store]
    exact List.filter_sublist
  · rw [store, List.mem_filter, present fun y => older y installed.firstCycle && retainedFor y s.store.retained == some c,
      List.any_eq_true]
    simp only [hc, true_and, Bool.and_eq_true, beq_iff_eq]
  · rw [store]
    exact installedKept
  · rw [store]
    exact awaiting
  · rw [store]
    exact restartCause
  · rw [store]
    exact nextCycle

end
